-- ==== Sys2Proof/Word.lean ====
section
/-! DEFINITION. The three widths of the block's data (00_scope.md rule R15): u8, u16 and u32. An s32 value is
held as its 32-bit two's-complement pattern (30_encoding.md rule R82: "the same 32-bit pattern, no conversion"; DESIGN CHOICE, log 11). -/

namespace Sys2Proof

/-- u8: a byte of the stream, of a packet, or of the checksum engine. -/
abbrev Byte := BitVec 8

/-- u16: a packet field of two bytes. -/
abbrev Half := BitVec 16

/-- u32 or s32: a host register, a command word, a setting. -/
abbrev Word := BitVec 32

end Sys2Proof
end

