-- ==== Sys2Proof/Syntax.lean ====
section
/-! DEFINITION. The six host commands, one constructor per row of spec/opcode_table.json
(30_encoding.md rules R80 to R82). -/

namespace Sys2Proof

/-- A command of the block. The field ranges of rule R80 are the types' own: a bit is a Bool, a byte a BitVec 8. -/
inductive Instr where
  /-- INIT_DEFAULTS, OP 0x01: load the power-on settings (42_scan_control.md rule R171). -/
  | initDefaults
  /-- CONFIGURE, OP 0x02: replace the settings (rule R174). `a`: the angle comes from ARG_ANGLE, else it is 360.
  `p`: the PWM frequency comes from ARG_PWM, else it is 10000. -/
  | configure (a p : Bool)
  /-- REGISTER_CB, OP 0x03: store the handle of ARG_CB in the callback slot (rule R177). -/
  | registerCb
  /-- READ_FRAME, OP 0x04: pull bytes from the stream (41_frame_decoder.md rule R140). -/
  | readFrame
  /-- CRC_CLEAR, OP 0x05: set the host accumulator to the seed (40_checksum.md rule R115). -/
  | crcClear
  /-- CRC_FEED, OP 0x06: one step of the running checksum with byte `b` (rule R116). -/
  | crcFeed (b : Byte)
  deriving DecidableEq, Repr

end Sys2Proof
end

