-- ==== Sys2Proof/Decode.lean ====
section
/-! DEFINITION. The command word: the decoder of 30_encoding.md rule R83, which rejects by name every word that
rule R87 calls illegal, and the encoder of rule R81. -/

namespace Sys2Proof

/-- Why a word is no command (rule R87). -/
inductive Illegal where
  /-- OP is 0x00 or in 0x07 to 0xFF. -/
  | reservedOp
  /-- OP is defined and a reserved bit is set. -/
  | reservedBits
  /-- Not the four bytes of a word: there is one command format (rule R80). Only `decodeBytes` says so. -/
  | notOneWord
  deriving DecidableEq, Repr

/-- Field OP, bits [7:0] (rule R80). -/
def opField (w : Word) : Byte := w.extractLsb' 0 8

/-- Field BYTE, bits [15:8] (rule R80). -/
def byteField (w : Word) : Byte := w.extractLsb' 8 8

/-- Answer `i` where the reserved bits `r` are 0 (rule R83). -/
def ifReservedZero {n : Nat} (r : BitVec n) (i : Instr) : Except Illegal Instr :=
  if r = 0 then .ok i else .error .reservedBits

/-- The decode function, total on every word (rule R83). -/
def decode (w : Word) : Except Illegal Instr :=
  if opField w = 0x01#8 then ifReservedZero (w.extractLsb' 8 24) .initDefaults
  else if opField w = 0x02#8 then ifReservedZero (w.extractLsb' 10 22) (.configure (w.getLsbD 8) (w.getLsbD 9))
  else if opField w = 0x03#8 then ifReservedZero (w.extractLsb' 8 24) .registerCb
  else if opField w = 0x04#8 then ifReservedZero (w.extractLsb' 8 24) .readFrame
  else if opField w = 0x05#8 then ifReservedZero (w.extractLsb' 8 24) .crcClear
  else if opField w = 0x06#8 then ifReservedZero (w.extractLsb' 16 16) (.crcFeed (byteField w))
  else .error .reservedOp

/-- The word whose little-endian bytes are given: bits [7:0] at the lowest address (20_memory.md rule R51). -/
def wordOfBytes (b0 b1 b2 b3 : Byte) : Word := b3 ++ b2 ++ b1 ++ b0

/-- The bytes of a word on the host bus, lowest address first (rule R51). -/
def bytesOfWord (w : Word) : List Byte :=
  [w.extractLsb' 0 8, w.extractLsb' 8 8, w.extractLsb' 16 8, w.extractLsb' 24 8]

/-- Decoding from bytes, total on any list: a command is the four bytes of one word (rules R51, R80). -/
def decodeBytes : List Byte → Except Illegal Instr
  | [b0, b1, b2, b3] => decode (wordOfBytes b0 b1 b2 b3)
  | _ => .error .notOneWord

/-- A bit as a field of width 1. -/
def bitField (b : Bool) : BitVec 1 := BitVec.ofBool b

/-- The word of a command (rule R81): each row's match with its free fields filled in. -/
def encode : Instr → Word
  | .initDefaults => 0x00000001#32
  | .configure a p => (0#22 ++ bitField p ++ bitField a ++ 0x02#8 : BitVec (22 + 1 + 1 + 8))
  | .registerCb => 0x00000003#32
  | .readFrame => 0x00000004#32
  | .crcClear => 0x00000005#32
  | .crcFeed b => (0#16 ++ b ++ 0x06#8 : BitVec (16 + 8 + 8))

/-- A row of the opcode map: a word selects the command when `(w & mask) = match` (rule R81). -/
structure OpcodeRow where
  pattern : Word
  mask : Word
  deriving DecidableEq, Repr

/-- The opcode map's row of a command (rule R81). -/
def opcodeRow : Instr → OpcodeRow
  | .initDefaults => ⟨0x00000001#32, 0xFFFFFFFF#32⟩
  | .configure _ _ => ⟨0x00000002#32, 0xFFFFFCFF#32⟩
  | .registerCb => ⟨0x00000003#32, 0xFFFFFFFF#32⟩
  | .readFrame => ⟨0x00000004#32, 0xFFFFFFFF#32⟩
  | .crcClear => ⟨0x00000005#32, 0xFFFFFFFF#32⟩
  | .crcFeed _ => ⟨0x00000006#32, 0xFFFF00FF#32⟩

/-- A word matches a row of the opcode map (rule R81). -/
def OpcodeRow.selects (r : OpcodeRow) (w : Word) : Bool := w &&& r.mask == r.pattern

/-- The instruction the decoder reads from an instruction whose bits are `w`, numbered as spec/opcode_table.json
numbers them; bits above `nbits` are 0. The word is laid out in its four bus bytes and decoded from them. -/
def decodeTableWord (nbits w : Nat) : Option Instr :=
  if nbits ≤ 32 then (decodeBytes (bytesOfWord (BitVec.ofNat 32 (w % 2 ^ nbits)))).toOption else none

end Sys2Proof
end

