-- ==== Sys2Proof/Config.lean ====
section
/-! DEFINITION. The implementation parameters of 00_scope.md rule R10. A parameter the spec fixes is a
definition; a parameter the spec leaves OPEN is a constant with no body, so that whatever is proved holds for
every value of it (DESIGN CHOICE, log 3, 4). -/

namespace Sys2Proof.Config

/-- HDR, the packet header byte (rules R10, R84). -/
abbrev hdr : Byte := 0x54#8

/-- VERLEN, the version/length marker (rules R10, R84). -/
abbrev verlen : Byte := 0x2C#8

/-- N, the samples of one packet: 12 for this hardware (rules R10, R12; DESIGN CHOICE, log 4). -/
abbrev N : Nat := 12

/-- PKT_LEN = 11 + 3·N, the length of a packet in bytes (rules R10, R85). -/
abbrev pktLen : Nat := 11 + 3 * N

/-- DEFAULT_ANGLE, degrees (rule R10). -/
abbrev defaultAngle : Word := 360#32

/-- DEFAULT_PWM, Hz (rule R10). -/
abbrev defaultPwm : Word := 10000#32

/-- CRC_TABLE, OPEN: any 256-entry table of bytes (rules R10, R112). -/
opaque crcTable : Byte → Byte

/-- DEFAULT_SPEED, OPEN: any s32 (rule R10). -/
opaque defaultSpeed : Word

/-- PWM_DERIVE, OPEN: any total function s32 → u32 (rules R10, R179). -/
opaque pwmDerive : Word → Word

/-- The number of the 256-byte page at which the register block stands, OPEN (rules R10, R63). -/
opaque basePage : Nat

/-- BASE, the bus address of the register block: 256-byte aligned for every `basePage` (rules R10, R63). -/
def base : Nat := 256 * basePage

/-- The OPEN parameters that a command or a byte step reads. The operations of the machine take them as an
argument, as rule R10 asks, so that a law about them holds for every table, speed and derivation. -/
structure Params where
  /-- CRC_TABLE. -/
  crcTable : Byte → Byte
  /-- DEFAULT_SPEED. -/
  defaultSpeed : Word
  /-- PWM_DERIVE. -/
  pwmDerive : Word → Word

/-- The parameters of this hardware: the OPEN constants themselves. -/
def params : Params where
  crcTable := crcTable
  defaultSpeed := defaultSpeed
  pwmDerive := pwmDerive

end Sys2Proof.Config
end

