-- ==== Sys2Proof/Machine/Agents.lean ====
section
/-! DEFINITION. What the agents outside the block can do (20_memory.md rules R52, R60, R70): the host's accesses,
the byte source's arrivals, a hardware reset, and the turns of the block itself. -/

namespace Sys2Proof.Machine

/-- The two directions of a host access: `RegRead` and `RegWrite` (rule R52). -/
inductive HostOp where
  | read
  | write (v : Word)
  deriving DecidableEq, Repr

/-- A host access to the block: `off` is its byte offset from BASE and `bytes` the size of the transfer. The
spec admits only aligned 4-byte accesses below offset 0x100 (rule R52); the others can be written down here so
that the machine can refuse them. -/
structure Access where
  off : Nat
  bytes : Nat
  op : HostOp
  deriving DecidableEq, Repr

/-- One atomic step of one agent (rules R65, R70). -/
inductive Action where
  /-- The host makes one access. -/
  | host (a : Access)
  /-- The host polls: it reads STATUS until BUSY is clear (30_encoding.md rule R90; DESIGN CHOICE, log 12). -/
  | poll
  /-- The byte source appends bytes, oldest first (20_memory.md rule R60). -/
  | source (bs : List Byte)
  /-- The environment resets the block (70_reset_and_hazards.md rule R230). -/
  | reset
  /-- The block takes one step: a byte step of a running READ_FRAME, nothing while idle. -/
  | block
  deriving DecidableEq, Repr

/-- The host's `RegRead(off)`. -/
abbrev Action.regRead (off : Nat) : Action := .host ⟨off, 4, .read⟩

/-- The host's `RegWrite(off, v)`. -/
abbrev Action.regWrite (off : Nat) (v : Word) : Action := .host ⟨off, 4, .write v⟩

end Sys2Proof.Machine
end

