-- ==== Sys2Proof/Machine/State.lean ====
section
/-! DEFINITION. The block's state record (10_state.md rule R22), the environment's state beside it (rule R35),
what the model itself adds (DESIGN CHOICE, log 1, 7, 24), the reasons a step can stop, and the state after reset. -/

namespace Sys2Proof.Machine

/-- `cfg`: the controller's two states (rule R23). -/
inductive Cfg where
  | unconfigured
  | configured
  deriving DecidableEq, Repr

/-- `result`: the codes that 30_encoding.md rule R88 defines. The codes it reserves (0x7, 0xC to 0xF) are "never
written", so they have no constructor (DEDUCED, log 17). -/
inductive ResultCode where
  | none
  | done
  | frame
  | noData
  | insufficient
  | badVersion
  | badChecksum
  | errNotInit
  | errNoSource
  | errReinit
  | errIllegal
  deriving DecidableEq, Repr

/-- ScanSettings: `set_speed`, `set_angle`, `set_pwm`, each the pattern of an s32 (rule R24). They change together. -/
structure Settings where
  speed : Word
  angle : Word
  pwmFreq : Word
  deriving DecidableEq, Repr

/-- The frame registers `fr_speed`, `fr_start`, `fr_end`, `fr_ts`, `fr_dist[i]`, `fr_conf[i]`, 0 ≤ i < N (rule R30). -/
structure Frame where
  speed : Half
  startAngle : Half
  endAngle : Half
  timestamp : Half
  dist : Vector Half Config.N
  conf : Vector Byte Config.N
  deriving DecidableEq, Repr

/-- The frame registers at reset: all 0 (rule R22). -/
def Frame.zero : Frame :=
  { speed := 0, startAngle := 0, endAngle := 0, timestamp := 0,
    dist := Vector.ofFn fun _ => 0, conf := Vector.ofFn fun _ => 0 }

/-- A PWM-update event, `{handle, speed, angle, pwm_freq, derived}` (20_memory.md rule R62). -/
structure PwmEvent where
  handle : Word
  speed : Word
  angle : Word
  pwmFreq : Word
  derived : Word
  deriving DecidableEq, Repr

/-- What one `RegRead` gave the host (DESIGN CHOICE, log 7). -/
structure ReadRecord where
  off : Nat
  value : Word
  deriving DecidableEq, Repr

/-- The reasons a step stops with a fault. The block itself has none (60_exceptions.md rules R200, R216). -/
inductive Fault where
  /-- Raised by a byte step in a state whose candidate buffer holds PKT_LEN bytes or more. Rule R22 admits no such
  state and no step from a state that keeps rule R34 reaches one (DEDUCED, log 6). Safe. -/
  | candidateOverrun
  deriving DecidableEq, Repr

/-- The reasons a step is refused. -/
inductive Refusal where
  /-- Raised by an arm of exec whose command has no meaning yet; no arm of this model is. Safe. -/
  | notModelled (mnemonic : String)
  /-- Raised by a host access that does not move 32 bits (20_memory.md rule R52). Safe. -/
  | accessNotWord
  /-- Raised by a host access whose offset is not a multiple of 4 (rule R52). Safe. -/
  | accessMisaligned
  /-- Raised by a host access at an offset of 0x100 or more (rule R52). Safe. -/
  | accessOutsideWindow
  deriving DecidableEq, Repr

/-- The machine: the block's record, its environment, and the model's own three lists. -/
structure State where
  /-- `cfg` (rule R23). -/
  cfg : Cfg
  /-- `set_speed`, `set_angle`, `set_pwm` (rule R24). -/
  settings : Settings
  /-- `cb_valid` (rule R28). -/
  cbValid : Bool
  /-- `cb_handle` (rule R28). -/
  cbHandle : Word
  /-- `arg_speed` (rule R25). -/
  argSpeed : Word
  /-- `arg_angle` (rule R25). -/
  argAngle : Word
  /-- `arg_pwm` (rule R25). -/
  argPwm : Word
  /-- `arg_cb` (rule R25). -/
  argCb : Word
  /-- `crc_acc` (rule R26). -/
  crcAcc : Byte
  /-- `buf`, the candidate buffer, first byte first (rule R33). -/
  buf : List Byte
  /-- `replay`, the replay queue, next byte first (rule R31). -/
  replay : List Byte
  /-- The frame registers (rule R30). -/
  frame : Frame
  /-- `frame_valid` (rule R29). -/
  frameValid : Bool
  /-- `busy` (rule R27). -/
  busy : Bool
  /-- `result` (rule R27; 30_encoding.md rule R88). -/
  result : ResultCode
  /-- `cmd_ovr`, sticky (rule R27). -/
  cmdOvr : Bool
  /-- `src`, the environment's: the byte source's contents, oldest first (rule R35). -/
  src : List Byte
  /-- `src_present`, the environment's (rule R35; 20_memory.md rule R61; DEDUCED, log 19). -/
  srcPresent : Bool
  /-- `events`, the environment's: the PWM-update output, oldest first, append-only (rule R35). -/
  events : List PwmEvent
  /-- The model's own: what the host has read, oldest first (DESIGN CHOICE, log 7). -/
  reads : List ReadRecord
  /-- The model's own: the agents' coming steps, next first (DESIGN CHOICE, log 1). -/
  schedule : List Action
  /-- The model's own: the turns that the agents take over and over once the schedule is used up, so that a stream
  need not end (41_frame_decoder.md rule R142; DESIGN CHOICE, log 24); any turns, the block's among them or not
  (DESIGN CHOICE, log 25). -/
  recurring : List Action
  deriving DecidableEq, Repr

/-- The machine after reset. The block's fields are the reset column of rule R22 (70_reset_and_hazards.md rule
R230). The environment's three fields and the model's three lists have no reset value in the spec: a connected,
silent source, no event, nothing read, nothing scheduled (DESIGN CHOICE, log 5). -/
def State.reset : State :=
  { cfg := .unconfigured
    settings := ⟨0, 0, 0⟩
    cbValid := false
    cbHandle := 0
    argSpeed := 0
    argAngle := 0
    argPwm := 0
    argCb := 0
    crcAcc := 0
    buf := []
    replay := []
    frame := Frame.zero
    frameValid := false
    busy := false
    result := .none
    cmdOvr := false
    src := []
    srcPresent := true
    events := []
    reads := []
    schedule := []
    recurring := [] }

end Sys2Proof.Machine
end

