-- ==== Sys2Proof/Machine/Ops.lean ====
section
/-! DEFINITION. The operations every command and byte step is made of: ending a command, the gate of CMD, the
PWM-update output, the stream, the push-back of a rejected candidate, and hardware reset. The block has no trap
entry and no trap return (60_exceptions.md rules R207, R208): an error is `State.finish` with an error code. -/

namespace Sys2Proof.Machine

/-- `finish(code)`: write `result`, clear `busy` (00_scope.md rule R15). With an error code it is the whole effect
of an error (60_exceptions.md rule R202). -/
def State.finish (code : ResultCode) (s : State) : State := { s with result := code, busy := false }

/-- A dropped CMD write: nothing but `cmd_ovr <- 1` (20_memory.md rule R57). -/
def State.dropCmd (s : State) : State := { s with cmdOvr := true }

/-- The gate of a CMD write: dropped while `busy` = 1 (rule R57), accepted otherwise (rule R56; DEDUCED, log 13). -/
def State.accept (run : State → State) (s : State) : Host.Outcome State Fault Refusal :=
  if s.busy then .next s.dropCmd else .next (run s)

/-- The settings triple is replaced in one write (42_scan_control.md rule R174). -/
def State.storeSettings (t : Settings) (s : State) : State := { s with settings := t }

/-- The single callback slot takes the handle (rule R177). -/
def State.storeHandle (h : Word) (s : State) : State := { s with cbValid := true, cbHandle := h }

/-- The record of a PWM update: the slot's handle, the settings just written, and `PWM_DERIVE(pwm_freq)`
(20_memory.md rule R62; 42_scan_control.md rule R179). -/
def pwmEvent (P : Config.Params) (s : State) : PwmEvent :=
  { handle := s.cbHandle
    speed := s.settings.speed
    angle := s.settings.angle
    pwmFreq := s.settings.pwmFreq
    derived := P.pwmDerive s.settings.pwmFreq }

/-- `Emit(e)`: append the record to the PWM-update output (20_memory.md rule R62; DESIGN CHOICE,
log 10). -/
def State.emit (e : PwmEvent) (s : State) : State := { s with events := s.events ++ [e] }

/-- After the settings are written: emit one event if a callback is registered (rules R171, R174). -/
def State.notify (P : Config.Params) (s : State) : State := if s.cbValid then s.emit (pwmEvent P s) else s

/-- `SrcAvail()`: the byte source holds at least one byte (20_memory.md rule R60). -/
def State.srcAvail (s : State) : Bool := !s.src.isEmpty

/-- `stream_avail()` (41_frame_decoder.md rule R131). -/
def State.streamAvail (s : State) : Bool := !s.replay.isEmpty || s.srcAvail

/-- `SrcTake()`: remove and return the oldest byte of the byte source (20_memory.md rule R60). -/
def State.srcTake (s : State) : Option (Byte × State) :=
  match s.src with
  | [] => none
  | b :: rest => some (b, { s with src := rest })

/-- `take()`: the head of `replay`, else the head of the byte source (41_frame_decoder.md rule R131). -/
def State.take (s : State) : Option (Byte × State) :=
  match s.replay with
  | [] => s.srcTake
  | b :: rest => some (b, { s with replay := rest })

/-- The byte source appends bytes to the back of `src` (20_memory.md rule R60; DESIGN CHOICE, log 9). -/
def State.srcAppend (bs : List Byte) (s : State) : State := { s with src := s.src ++ bs }

/-- The candidate takes one more byte (41_frame_decoder.md rules R133, R134, R137). -/
def State.capture (b : Byte) (s : State) : State := { s with buf := s.buf ++ [b] }

/-- `reject(b)`: the candidate goes back into the stream, all but its header (rule R136). -/
def State.reject (b : Byte) (s : State) : State :=
  { s with replay := s.buf.tail ++ [b] ++ s.replay, buf := [] }

/-- The write of `deliver`: all frame registers and `frame_valid` at once; `replay` stays (rule R138). -/
def State.deliver (f : Frame) (s : State) : State := { s with frame := f, frameValid := true, buf := [] }

/-- Hardware reset: every field of the block's record takes its reset value, the environment's state is untouched
(70_reset_and_hazards.md rule R230), and so are the model's three lists (DESIGN CHOICE, log 18). -/
def State.hardReset (s : State) : State :=
  { State.reset with
    src := s.src, srcPresent := s.srcPresent, events := s.events, reads := s.reads, schedule := s.schedule
    recurring := s.recurring }

end Sys2Proof.Machine
end

