-- ==== Sys2Proof/Machine/Checksum.lean ====
section
/-! DEFINITION. The checksum engine (40_checksum.md): `crc8`, the commands CRC_CLEAR and CRC_FEED, and the
reference instance of the table, which no operation of the machine uses. -/

namespace Sys2Proof.Machine

/-- `crc_step(c, b) = CRC_TABLE[(c ^ b) & 0xFF]` (rule R111). -/
def crcStep (P : Config.Params) (c b : Byte) : Byte := P.crcTable ((c ^^^ b) &&& 0xFF#8)

/-- `crc8(bs) = foldl crc_step 0x00 bs` (rule R111). -/
def crc8 (P : Config.Params) (bs : List Byte) : Byte := bs.foldl (crcStep P) 0x00#8

/-- The effect of CRC_CLEAR (rule R115). -/
def crcClear (s : State) : State := { s with crcAcc := 0x00#8 }.finish .done

/-- The effect of CRC_FEED (rule R116). -/
def crcFeed (P : Config.Params) (b : Byte) (s : State) : State :=
  { s with crcAcc := crcStep P s.crcAcc b }.finish .done

/-- CRC_CLEAR: set the host accumulator to the seed (rule R115). -/
def execCrcClear (s : State) : Host.Outcome State Fault Refusal := s.accept crcClear

/-- CRC_FEED: one step of the running checksum (rule R116). -/
def execCrcFeed (b : Byte) (s : State) : Host.Outcome State Fault Refusal :=
  s.accept (crcFeed Config.params b)

/-- One round of the loop that generates the reference table (rule R112). -/
def refRound (c : Byte) : Byte := if c &&& 0x80#8 ≠ 0 then (c <<< 1) ^^^ 0x4D#8 else c <<< 1

/-- `CRC_TABLE[i]` of the reference instance: eight rounds, generator polynomial 0x4D (rule R112; PRESUMED, log 23). -/
def refTable (i : Byte) : Byte :=
  refRound (refRound (refRound (refRound (refRound (refRound (refRound (refRound i)))))))

/-- The reference instances of 00_scope.md rule R10: the table of rule R112 and the identity for PWM_DERIVE.
DEFAULT_SPEED stays open. A statement about these parameters says nothing about `Config.params`. -/
def refParams : Config.Params where
  crcTable := refTable
  defaultSpeed := Config.defaultSpeed
  pwmDerive := fun p => p

end Sys2Proof.Machine
end

