-- ==== Sys2Proof/Machine/Operands.lean ====
section
/-! DEFINITION. Operand assembly: the commands' operands (30_encoding.md rule R82) and the fields of a packet
(rules R15, R86). -/

namespace Sys2Proof.Machine

/-- CONFIGURE's settings: speed from ARG_SPEED; angle from ARG_ANGLE if A, else 360; pwm_freq from ARG_PWM if P,
else 10000 (rule R82). -/
def configureOperands (a p : Bool) (s : State) : Settings :=
  { speed := s.argSpeed
    angle := if a then s.argAngle else Config.defaultAngle
    pwmFreq := if p then s.argPwm else Config.defaultPwm }

/-- The power-on settings that INIT_DEFAULTS loads (42_scan_control.md rule R171). -/
def defaultSettings (P : Config.Params) : Settings :=
  { speed := P.defaultSpeed, angle := Config.defaultAngle, pwmFreq := Config.defaultPwm }

/-- `le16(lo, hi) = zext_16(lo) | (zext_16(hi) << 8)` (00_scope.md rule R15). -/
def le16 (lo hi : Byte) : Half := lo.setWidth 16 ||| (hi.setWidth 16 <<< 8)

/-- Byte `i` of a packet. `decodeFrame` reads offsets below PKT_LEN only, so a whole packet has them all. -/
def byteAt (p : List Byte) (i : Nat) : Byte := p.getD i 0

/-- The two-byte little-endian field at offset `i` of a packet (rule R86). -/
def fieldAt (p : List Byte) (i : Nat) : Half := le16 (byteAt p i) (byteAt p (i + 1))

/-- The fields of a complete packet (rule R86). -/
def decodeFrame (p : List Byte) : Frame :=
  { speed := fieldAt p 2
    startAngle := fieldAt p 4
    dist := Vector.ofFn fun i => fieldAt p (6 + 3 * i)
    conf := Vector.ofFn fun i => byteAt p (8 + 3 * i)
    endAngle := fieldAt p (6 + 3 * Config.N)
    timestamp := fieldAt p (8 + 3 * Config.N) }

end Sys2Proof.Machine
end

