-- ==== Sys2Proof/Machine/FrameDecoder.lean ====
section
/-! DEFINITION. The frame decoder (41_frame_decoder.md): the byte step, the block's step while a READ_FRAME runs,
and READ_FRAME's acceptance. -/

namespace Sys2Proof.Machine

/-- The outcomes of the byte step (rule R132). -/
inductive DecOutcome where
  | cont
  | frame
  | badVersion
  | badChecksum
  deriving DecidableEq, Repr

/-- `dec_step(b)`, by the length of the candidate (rule R132). Its last case is `len buf = PKT_LEN - 1`: the block
step below does not call it on a longer candidate. -/
def decStep (P : Config.Params) (b : Byte) (s : State) : DecOutcome × State :=
  if s.buf.length = 0 then
    if b = Config.hdr then (.cont, s.capture b) else (.cont, s)
  else if s.buf.length = 1 then
    if b = Config.verlen then (.cont, s.capture b) else (.badVersion, s.reject b)
  else if s.buf.length ≤ Config.pktLen - 2 then (.cont, s.capture b)
  else if crc8 P s.buf = b then (.frame, s.deliver (decodeFrame (s.buf ++ [b])))
  else (.badChecksum, s.reject b)

/-- What the outcome of a byte step does to the command: CONT leaves it running, any other ends it (rule R140). -/
def endByteStep : DecOutcome × State → State
  | (.cont, s) => s
  | (.frame, s) => s.finish .frame
  | (.badVersion, s) => s.finish .badVersion
  | (.badChecksum, s) => s.finish .badChecksum

/-- The end of a READ_FRAME that finds the stream empty (rules R140, R141). -/
def finishEmpty (s : State) : State := s.finish (if s.buf = [] then .noData else .insufficient)

/-- One block step while `busy` = 1 (rule R140). A candidate of PKT_LEN bytes or more is in no state of the spec
(10_state.md rule R22) and is a fault (DEDUCED, log 6). -/
def readFrameStep (P : Config.Params) (s : State) : Host.Outcome State Fault Refusal :=
  match s.take with
  | none => .next (finishEmpty s)
  | some (b, s') =>
    if s'.buf.length < Config.pktLen then .next (endByteStep (decStep P b s')) else .fault .candidateOverrun

/-- The effect of READ_FRAME's acceptance step: the two error checks, else the command starts and no byte is taken
yet (rule R140). -/
def startReadFrame (s : State) : State :=
  match s.cfg with
  | .unconfigured => s.finish .errNotInit
  | .configured => if s.srcPresent then { s with busy := true } else s.finish .errNoSource

/-- READ_FRAME: the acceptance step. The byte steps that follow are the block's own (`readFrameStep`), one per
model step, because other agents act between them (rule R140; 20_memory.md rule R65). -/
def execReadFrame (s : State) : Host.Outcome State Fault Refusal := s.accept startReadFrame

end Sys2Proof.Machine
end

