-- ==== Sys2Proof/Machine/ScanControl.lean ====
section
/-! DEFINITION. The scan controller (42_scan_control.md): INIT_DEFAULTS, CONFIGURE and REGISTER_CB. -/

namespace Sys2Proof.Machine

/-- The effect of INIT_DEFAULTS: refused once Configured; else the power-on settings, the transition to Configured
and, with a callback registered, one event (rules R171, R172). -/
def initDefaults (P : Config.Params) (s : State) : State :=
  match s.cfg with
  | .configured => s.finish .errReinit
  | .unconfigured => (({ s with cfg := .configured }.storeSettings (defaultSettings P)).notify P).finish .done

/-- The effect of CONFIGURE: an error while Unconfigured; else the three settings in one write and, with a callback
registered, one event that carries them (rules R174, R175). -/
def configure (P : Config.Params) (a p : Bool) (s : State) : State :=
  match s.cfg with
  | .unconfigured => s.finish .errNotInit
  | .configured => ((s.storeSettings (configureOperands a p s)).notify P).finish .done

/-- The effect of REGISTER_CB: the slot takes ARG_CB (rule R177). -/
def registerCb (s : State) : State := (s.storeHandle s.argCb).finish .done

/-- INIT_DEFAULTS: load the power-on settings and enter Configured (rule R171). -/
def execInitDefaults (s : State) : Host.Outcome State Fault Refusal := s.accept (initDefaults Config.params)

/-- CONFIGURE: replace the settings triple, then notify (rule R174). -/
def execConfigure (a p : Bool) (s : State) : Host.Outcome State Fault Refusal :=
  s.accept (configure Config.params a p)

/-- REGISTER_CB: store the handle in the single callback slot (rule R177). -/
def execRegisterCb (s : State) : Host.Outcome State Fault Refusal := s.accept registerCb

end Sys2Proof.Machine
end

