-- ==== Sys2Proof/Machine/Dispatch.lean ====
section
/-! DEFINITION. The command dispatch: what a write of the command's word to CMD does (20_memory.md rules R56, R57). -/

namespace Sys2Proof.Machine

/-- The host writes the command's word to CMD: one arm per command, each calling its meaning. -/
def exec (i : Instr) (s : State) : Host.Outcome State Fault Refusal :=
  match i with
  | .initDefaults => Sys2Proof.Machine.execInitDefaults s
  | .configure a p => Sys2Proof.Machine.execConfigure a p s
  | .registerCb => Sys2Proof.Machine.execRegisterCb s
  | .readFrame => Sys2Proof.Machine.execReadFrame s
  | .crcClear => Sys2Proof.Machine.execCrcClear s
  | .crcFeed b => Sys2Proof.Machine.execCrcFeed b s

end Sys2Proof.Machine
end

