-- ==== Sys2Proof/Machine/Flags.lean ====
section
/-! DEFINITION. The status flags as the host sees them: the result codes (30_encoding.md rule R88) and the STATUS
word (20_memory.md rule R55). The block has no arithmetic condition codes (10_state.md rule R36). -/

namespace Sys2Proof.Machine

/-- The 4-bit code of a result (rule R88). -/
def ResultCode.code : ResultCode → BitVec 4
  | .none => 0x0#4
  | .done => 0x1#4
  | .frame => 0x2#4
  | .noData => 0x3#4
  | .insufficient => 0x4#4
  | .badVersion => 0x5#4
  | .badChecksum => 0x6#4
  | .errNotInit => 0x8#4
  | .errNoSource => 0x9#4
  | .errReinit => 0xA#4
  | .errIllegal => 0xB#4

/-- The programmer errors, codes 0x8 to 0xB (60_exceptions.md rule R201). -/
def ResultCode.isError : ResultCode → Bool
  | .errNotInit | .errNoSource | .errReinit | .errIllegal => true
  | .none | .done | .frame | .noData | .insufficient | .badVersion | .badChecksum => false

/-- CFG: 1 iff `cfg` = Configured (20_memory.md rule R55). -/
def State.configured (s : State) : Bool := decide (s.cfg = .configured)

/-- A flag as a field of width 1. -/
def flag (b : Bool) : BitVec 1 := BitVec.ofBool b

/-- The STATUS word (rule R55): [31:11] 0, [10] SRC_AVAIL, [9] SRC_PRESENT, [8] CMD_OVR, [7] FRAME_VALID,
[6] CB_VALID, [5] CFG, [4] BUSY, [3:0] RESULT. -/
def State.statusWord (s : State) : Word :=
  (0#21 ++ flag (s.srcPresent && s.srcAvail) ++ flag s.srcPresent ++ flag s.cmdOvr ++ flag s.frameValid ++
    flag s.cbValid ++ flag s.configured ++ flag s.busy ++ s.result.code :
    BitVec (21 + 1 + 1 + 1 + 1 + 1 + 1 + 1 + 4))

end Sys2Proof.Machine
end

