-- ==== Sys2Proof/Machine/RegisterMap.lean ====
section
/-! DEFINITION. The host register space (20_memory.md rules R53 to R55): the registers, their offsets, what a read
gives, and where the block stands on the bus (rule R63). -/

namespace Sys2Proof.Machine

/-- The registers of rule R55. -/
inductive Reg where
  | cmd
  | status
  | argSpeed
  | argAngle
  | argPwm
  | argCb
  | crcAcc
  | param
  | setSpeed
  | setAngle
  | setPwm
  | setCb
  | frSpeed
  | frStart
  | frEnd
  | frTs
  | decState
  /-- FR_SAMPLE[i]. -/
  | sample (i : Fin 32)
  deriving DecidableEq, Repr

/-- A register's offset from BASE (rule R55). -/
def Reg.offset : Reg → Nat
  | .cmd => 0x00
  | .status => 0x04
  | .argSpeed => 0x08
  | .argAngle => 0x0C
  | .argPwm => 0x10
  | .argCb => 0x14
  | .crcAcc => 0x18
  | .param => 0x1C
  | .setSpeed => 0x20
  | .setAngle => 0x24
  | .setPwm => 0x28
  | .setCb => 0x2C
  | .frSpeed => 0x30
  | .frStart => 0x34
  | .frEnd => 0x38
  | .frTs => 0x3C
  | .decState => 0x40
  | .sample i => 0x80 + 4 * i.val

/-- The registers at fixed offsets, in the order of rule R55. -/
def fixedRegs : List Reg :=
  [.cmd, .status, .argSpeed, .argAngle, .argPwm, .argCb, .crcAcc, .param, .setSpeed, .setAngle, .setPwm, .setCb,
    .frSpeed, .frStart, .frEnd, .frTs, .decState]

/-- Every register of rule R55. -/
def allRegs : List Reg := fixedRegs ++ (List.finRange 32).map .sample

/-- The register at an offset, if rule R55 maps one there. -/
def regAt (off : Nat) : Option Reg := allRegs.find? fun r => r.offset == off

/-- FR_SAMPLE[i]: [15:0] DIST, [23:16] CONF, [31:24] 0; the whole word is 0 for i ≥ N (rule R55). -/
def sampleWord (f : Frame) (i : Nat) : Word :=
  if h : i < Config.N then (0#8 ++ f.conf[i] ++ f.dist[i] : BitVec (8 + 8 + 16)) else 0#32

/-- PARAM: [7:0] N, [15:8] HDR, [23:16] VERLEN, [31:24] PKT_LEN (rule R55; 10_state.md rule R38). -/
def paramWord : Word :=
  (BitVec.ofNat 8 Config.pktLen ++ Config.verlen ++ Config.hdr ++ BitVec.ofNat 8 Config.N : BitVec (8 + 8 + 8 + 8))

/-- DEC_STATE: [6:0] `len buf`, [14:8] `len replay`, bit [7] and bits [31:15] 0 (rule R55). -/
def decStateWord (s : State) : Word :=
  (0#17 ++ BitVec.ofNat 7 s.replay.length ++ 0#1 ++ BitVec.ofNat 7 s.buf.length : BitVec (17 + 7 + 1 + 7))

/-- What a register reads as (rule R55). The settings registers read 0 while Unconfigured and SET_CB reads 0 while
no callback is registered. -/
def regValue (s : State) : Reg → Word
  | .cmd => 0#32
  | .status => s.statusWord
  | .argSpeed => s.argSpeed
  | .argAngle => s.argAngle
  | .argPwm => s.argPwm
  | .argCb => s.argCb
  | .crcAcc => s.crcAcc.setWidth 32
  | .param => paramWord
  | .setSpeed => if s.configured then s.settings.speed else 0#32
  | .setAngle => if s.configured then s.settings.angle else 0#32
  | .setPwm => if s.configured then s.settings.pwmFreq else 0#32
  | .setCb => if s.cbValid then s.cbHandle else 0#32
  | .frSpeed => s.frame.speed.setWidth 32
  | .frStart => s.frame.startAngle.setWidth 32
  | .frEnd => s.frame.endAngle.setWidth 32
  | .frTs => s.frame.timestamp.setWidth 32
  | .decState => decStateWord s
  | .sample i => sampleWord s.frame i

/-- `RegRead(off)`: an offset that rule R55 does not map reads 0 (rule R53). -/
def regRead (off : Nat) (s : State) : Word :=
  match regAt off with
  | some r => regValue s r
  | none => 0#32

/-- The bus address of an access: BASE plus its offset (rules R50, R63; DEDUCED, log 21). -/
def Access.busAddr (a : Access) : Nat := Config.base + a.off

end Sys2Proof.Machine
end

