-- ==== Sys2Proof/Machine/HostPort.lean ====
section
/-! DEFINITION. One step of each agent (20_memory.md rule R70): the host's accesses (rules R52 to R58), the byte
source's arrivals, a hardware reset, and the block's own step. -/

namespace Sys2Proof.Machine

/-- Why an access is refused, if it is (rule R52; DESIGN CHOICE, log 8). -/
def accessRefusal (a : Access) : Option Refusal :=
  if a.bytes ≠ 4 then some .accessNotWord
  else if a.off % 4 ≠ 0 then some .accessMisaligned
  else if 0x100 ≤ a.off then some .accessOutsideWindow
  else none

/-- `RegWrite(0x00, w)`: the command the word selects, or ERR_ILLEGAL; dropped while `busy` = 1 in either case
(rules R56, R57; 30_encoding.md rule R87). -/
def cmdWrite (w : Word) (s : State) : Host.Outcome State Fault Refusal :=
  match decode w with
  | .ok i => exec i s
  | .error _ => s.accept (State.finish .errIllegal)

/-- `RegWrite(off, v)`: CMD runs a command, an ARG register stores the value, every other offset ignores the write
(rules R53 to R58). -/
def regWrite (off : Nat) (v : Word) (s : State) : Host.Outcome State Fault Refusal :=
  match regAt off with
  | some .cmd => cmdWrite v s
  | some .argSpeed => .next { s with argSpeed := v }
  | some .argAngle => .next { s with argAngle := v }
  | some .argPwm => .next { s with argPwm := v }
  | some .argCb => .next { s with argCb := v }
  | _ => .next s

/-- The host's `RegRead(off)`: no effect on the block (rule R54); the value is recorded for the host
(DESIGN CHOICE, log 7). -/
def State.recordRead (off : Nat) (s : State) : State := { s with reads := s.reads ++ [⟨off, regRead off s⟩] }

/-- One host access (rule R52). -/
def hostAccess (a : Access) (s : State) : Host.Outcome State Fault Refusal :=
  match accessRefusal a with
  | some r => .refused r
  | none =>
    match a.op with
    | .read => .next (s.recordRead a.off)
    | .write v => regWrite a.off v s

/-- BUSY, bit 4 of the STATUS word (rule R55). -/
def busyBit (status : Word) : Bool := status.getLsbD 4

/-- One turn of `poll`: read STATUS and, if BUSY is set, poll again after the block's next step
(30_encoding.md rule R90; DESIGN CHOICE, log 12). -/
def hostPoll (s : State) : State :=
  if busyBit (regRead Reg.status.offset s) then
    { s.recordRead Reg.status.offset with schedule := .block :: .poll :: s.schedule }
  else s.recordRead Reg.status.offset

/-- The block's step: a byte step while a READ_FRAME runs, nothing while idle (20_memory.md rule R70;
41_frame_decoder.md rule R140). -/
def blockStep (s : State) : Host.Outcome State Fault Refusal :=
  if s.busy then readFrameStep Config.params s else .next s

/-- One step of the agent whose turn it is. -/
def agentStep (a : Action) (s : State) : Host.Outcome State Fault Refusal :=
  match a with
  | .host acc => hostAccess acc s
  | .poll => .next (hostPoll s)
  | .source bs => .next (s.srcAppend bs)
  | .reset => .next s.hardReset
  | .block => blockStep s

/-- The coming turns, next first: the schedule, and the recurring turns anew when it is used up, so a run can be an
unending interleaving (20_memory.md rule R65; DESIGN CHOICE, log 1, 24). They need not hold a turn of the block, so an
unending run need not be fair to a running READ_FRAME (92_eei_decisions.md D27; DESIGN CHOICE, log 25). -/
def State.pending (s : State) : List Action := if s.schedule = [] then s.recurring else s.schedule

/-- The agent whose turn is next; the block, when no turn is pending (DESIGN CHOICE, log 1). -/
def State.nextAction (s : State) : Action := s.pending.headD .block

/-- The turn that is taken leaves the pending turns (DESIGN CHOICE, log 1). -/
def State.endTurn (s : State) : State := { s with schedule := s.pending.tail }

end Sys2Proof.Machine
end

