-- ==== Sys2Proof/Machine/Step.lean ====
section
/-! DEFINITION. One step of the machine: the next agent of the schedule acts (20_memory.md rules R65, R70). -/

namespace Sys2Proof.Machine

/-- One step: the next turn leaves the pending turns, and its agent acts. -/
def step (s : State) : Host.Outcome State Fault Refusal :=
  agentStep s.nextAction s.endTurn

/-- The block fetches no instruction: its next command is the host's next CMD write (10_state.md rule R21;
20_memory.md rule R56). So the host's next access is made the CMD write of the word (DESIGN CHOICE, log 2). -/
def State.withFetchWord (s : State) (nbits w : Nat) : State :=
  { s with schedule := .regWrite Reg.cmd.offset (BitVec.ofNat 32 (w % 2 ^ nbits)) :: s.schedule }

end Sys2Proof.Machine
end

