-- ==== Sys2Proof/Machine/Assembler.lean ====
section
/-! DEFINITION. The notation for host programs (30_encoding.md rules R90, R91): a statement is one turn of the host,
a pseudo-instruction is a list of statements (DESIGN CHOICE, log 22). -/

namespace Sys2Proof.Machine

/-- A statement of rule R90. `read` names no host variable: the value goes to the machine's record of reads. -/
inductive Stmt where
  /-- `write REG, imm`. -/
  | write (r : Reg) (imm : Word)
  /-- `read REG -> name`. -/
  | read (r : Reg)
  /-- `cmd MNEMONIC`. -/
  | cmd (i : Instr)
  /-- `poll`. -/
  | poll
  deriving DecidableEq, Repr

/-- What a statement has the host do (rule R90). -/
def Stmt.action : Stmt → Action
  | .write r imm => .regWrite r.offset imm
  | .read r => .regRead r.offset
  | .cmd i => .regWrite Reg.cmd.offset (encode i)
  | .poll => .poll

/-- The command mnemonics of rule R90, without the byte of CRC_FEED. -/
def mnemonic : Instr → String
  | .initDefaults => "INIT_DEFAULTS"
  | .configure false false => "CONFIGURE"
  | .configure true false => "CONFIGURE.A"
  | .configure false true => "CONFIGURE.P"
  | .configure true true => "CONFIGURE.AP"
  | .registerCb => "REGISTER_CB"
  | .readFrame => "READ_FRAME"
  | .crcClear => "CRC_CLEAR"
  | .crcFeed _ => "CRC_FEED"

/-- The pseudo-instructions of rule R91, each named after the source operation it stands for. -/
inductive Pseudo where
  /-- `initialize_defaults`. -/
  | initializeDefaults
  /-- `configure s`. -/
  | configureSpeed (speed : Word)
  /-- `configure s, a`. -/
  | configureAngle (speed angle : Word)
  /-- `configure s, a, p`. -/
  | configureFull (speed angle pwmFreq : Word)
  /-- `register_pwm_callback h`. -/
  | registerPwmCallback (handle : Word)
  /-- `read_frame`. -/
  | readFrame
  /-- `checksum [b0, ..., bk]`. -/
  | checksum (bs : List Byte)
  deriving DecidableEq, Repr

/-- The expansions of rule R91. -/
def Pseudo.expand : Pseudo → List Stmt
  | .initializeDefaults => [.cmd .initDefaults]
  | .configureSpeed s => [.write .argSpeed s, .cmd (.configure false false)]
  | .configureAngle s a => [.write .argSpeed s, .write .argAngle a, .cmd (.configure true false)]
  | .configureFull s a p =>
    [.write .argSpeed s, .write .argAngle a, .write .argPwm p, .cmd (.configure true true)]
  | .registerPwmCallback h => [.write .argCb h, .cmd .registerCb]
  | .readFrame => [.cmd .readFrame, .poll]
  | .checksum bs => .cmd .crcClear :: bs.map fun b => .cmd (.crcFeed b)

/-- The host's coming turns become those of a list of statements. -/
def State.withHostProgram (s : State) (prog : List Stmt) : State := { s with schedule := prog.map Stmt.action }

end Sys2Proof.Machine
end

