-- ==== Sys2Proof/Safety.lean ====
section
/-! DEFINITION. What a state of the block is (10_state.md rules R22, R24, R27, R29, R34), what a valid packet is
(30_encoding.md rule R85), and what counts as a safe step. -/

namespace Sys2Proof.Machine

/-- The candidate's first byte is the header and its second the version marker (rule R34). -/
def markersOk (buf : List Byte) : Prop :=
  (1 ≤ buf.length → buf[0]? = some Config.hdr) ∧ (2 ≤ buf.length → buf[1]? = some Config.verlen)

/-- The queues' bound. Rule R34 bounds each of `buf` and `replay` by PKT_LEN − 1; a step keeps those two bounds
because it keeps this one on their sum (DEDUCED, assumption log 16). -/
def queuesOk (s : State) : Prop :=
  s.buf.length + s.replay.length ≤ Config.pktLen - 1 ∧ markersOk s.buf

/-- While Unconfigured the settings hold 0; a slot that holds no callback has handle 0; frame registers that hold no
frame are 0 (rules R22, R24, R28, R29). -/
def unsetOk (s : State) : Prop :=
  (s.cfg = .unconfigured → s.settings = ⟨0, 0, 0⟩) ∧ (s.cbValid = false → s.cbHandle = 0) ∧
    (s.frameValid = false → s.frame = Frame.zero)

/-- A READ_FRAME runs only in a Configured block with a byte source (rule R27; 41_frame_decoder.md rule R140). -/
def busyOk (s : State) : Prop := s.busy = true → s.cfg = .configured ∧ s.srcPresent = true

/-- The states of the block: the invariants of rule R34 and of the records above. -/
def State.Inv (s : State) : Prop := queuesOk s ∧ unsetOk s ∧ busyOk s

/-- A valid packet: PKT_LEN bytes, the two markers, and the checksum of all before it in the last byte
(30_encoding.md rules R84, R85). -/
def validPacket (P : Config.Params) (p : List Byte) : Prop :=
  p.length = Config.pktLen ∧ p[0]? = some Config.hdr ∧ p[1]? = some Config.verlen ∧
    p[Config.pktLen - 1]? = some (crc8 P (p.take (Config.pktLen - 1)))

/-- The state holds no programmer error (60_exceptions.md rule R216). -/
def State.clean (s : State) : Prop := s.result.isError = false

/-- The two bytes of a little-endian field, the first byte first (rule R86). -/
def le16Bytes (v : Half) : List Byte := [v.extractLsb' 0 8, v.extractLsb' 8 8]

/-- Sample `i` on the wire: distance, then confidence (rule R85). -/
def sampleBytes (f : Frame) (i : Fin Config.N) : List Byte := le16Bytes f.dist[i] ++ [f.conf[i]]

/-- The bytes of a packet before its checksum (rule R85). -/
def packetBody (f : Frame) : List Byte :=
  [Config.hdr, Config.verlen] ++ le16Bytes f.speed ++ le16Bytes f.startAngle ++
    (List.finRange Config.N).flatMap (sampleBytes f) ++ le16Bytes f.endAngle ++ le16Bytes f.timestamp

/-- The packet that carries a frame: the layout of rule R85 with its checksum byte. -/
def packetOf (P : Config.Params) (f : Frame) : List Byte := packetBody f ++ [crc8 P (packetBody f)]

/-- `k` steps of the machine, stopping at the first fault or refusal. -/
def runSteps (k : Nat) (s : State) : Host.Outcome State Fault Refusal := Host.Core.run Sys2Proof.core k s

/-- The host's next turn is an accepted write of this word to CMD: `busy` = 0 (20_memory.md rule R56). -/
def acceptsCmd (s : State) (w : Word) : Prop :=
  s.busy = false ∧ s.nextAction = .regWrite Reg.cmd.offset w

/-- The next turn is a hardware reset (70_reset_and_hazards.md rule R230). -/
def resetsNext (s : State) : Prop := s.nextAction = .reset

/-- The next turn is the block's and a READ_FRAME runs (41_frame_decoder.md rule R140). -/
def byteStepNext (s : State) : Prop := s.busy = true ∧ s.nextAction = .block

end Sys2Proof.Machine
end

