-- ==== Sys2Proof/WellFormed.lean ====
section
/-! DEFINITION. Which terms are well formed. A command's fields are bits and bytes by their types, so every
command is well formed (30_encoding.md rule R80). A host access is well formed when 20_memory.md rule R52 admits
it: three checks, each with an ill-formed term in Tests/Slice0.lean. -/

namespace Sys2Proof

/-- Every command is well formed: A, P and BYTE take every value of their width (rules R80, R81). -/
def Instr.wellFormed : Instr → Bool
  | .initDefaults => true
  | .configure _ _ => true
  | .registerCb => true
  | .readFrame => true
  | .crcClear => true
  | .crcFeed _ => true

/-- "Each moves 32 bits" (rule R52). -/
def Machine.Access.movesWord (a : Machine.Access) : Bool := a.bytes == 4

/-- "off mod 4 = 0" (rule R52). -/
def Machine.Access.aligned (a : Machine.Access) : Bool := a.off % 4 == 0

/-- "off < 0x100" (rule R52). -/
def Machine.Access.inWindow (a : Machine.Access) : Bool := decide (a.off < 0x100)

/-- The accesses of the interface contract (rule R52). -/
def Machine.Access.wellFormed (a : Machine.Access) : Bool :=
  a.movesWord && a.aligned && a.inWindow

end Sys2Proof
end

