-- ==== Sys2Proof/Certificates/Slice0/Obligations.lean ====
section
/-! DEFINITION. The statements for the provers, in the order of the rules: encoding, the register space, the
commands, the checksum, the decoder's byte step and its runs, the state's invariant, whole-machine rules. A statement
speaks of the open parameters only through their names, so it holds for every value of them. -/

open Sys2Proof Sys2Proof.Machine

/-! ## Encoding -/

/-- 30_encoding.md section 1: every command decodes from its own word, and a word that decodes is the word of the
command it decodes to: no bit of a command word is dropped. -/
def Obligations.DecodeEncodeAgree : Prop :=
  (∀ i : Instr, i.wellFormed = true → decode (encode i) = .ok i) ∧
    ∀ (w : Word) (i : Instr), decode w = .ok i → encode i = w

/-- Words written out from rule R81 and the vectors of 95_test_vectors.md section 2.5. -/
def Obligations.WordsOfTheTableDecode : Prop :=
  decode 0x00000001#32 = .ok .initDefaults ∧
    decode 0x00000302#32 = .ok (.configure true true) ∧
    decode 0x00000102#32 = .ok (.configure true false) ∧
    decode 0x00000003#32 = .ok .registerCb ∧
    decode 0x00000004#32 = .ok .readFrame ∧
    decode 0x00000005#32 = .ok .crcClear ∧
    decode 0x0000FF06#32 = .ok (.crcFeed 0xFF) ∧
    decode 0x00000402#32 = .error .reservedBits ∧
    decode 0x000000FF#32 = .error .reservedOp

/-- Rule R81: a word selects a command exactly when it matches the command's row, with its free fields read from the
bits the row gives; and the words of CONFIGURE and CRC_FEED. -/
def Obligations.WordSelectsCommandByMaskAndMatch : Prop :=
  (∀ w : Word,
    (decode w = .ok .initDefaults ↔ w &&& 0xFFFFFFFF#32 = 0x00000001#32) ∧
    (∀ a p, decode w = .ok (.configure a p) ↔
      w &&& 0xFFFFFCFF#32 = 0x00000002#32 ∧ w.getLsbD 8 = a ∧ w.getLsbD 9 = p) ∧
    (decode w = .ok .registerCb ↔ w &&& 0xFFFFFFFF#32 = 0x00000003#32) ∧
    (decode w = .ok .readFrame ↔ w &&& 0xFFFFFFFF#32 = 0x00000004#32) ∧
    (decode w = .ok .crcClear ↔ w &&& 0xFFFFFFFF#32 = 0x00000005#32) ∧
    (∀ b, decode w = .ok (.crcFeed b) ↔
      w &&& 0xFFFF00FF#32 = 0x00000006#32 ∧ w.extractLsb' 8 8 = b)) ∧
  encode (.configure false false) = 0x00000002#32 ∧ encode (.configure true false) = 0x00000102#32 ∧
    encode (.configure false true) = 0x00000202#32 ∧ encode (.configure true true) = 0x00000302#32 ∧
    ∀ b : Byte, encode (.crcFeed b) = 0x00000006#32 ||| (b.setWidth 32 <<< 8)

/-- Rule R87: the illegal words are those of a reserved OP and those of a defined OP with a reserved bit set, every
other word is a command's, and an accepted illegal word changes nothing but `result`. -/
def Obligations.IllegalWordChangesOnlyResult : Prop :=
  ∀ w : Word,
    ((∃ e, decode w = .error e) ↔
      w.extractLsb' 0 8 = 0x00#8 ∨ 0x07 ≤ (w.extractLsb' 0 8).toNat ∨
        (w.extractLsb' 0 8 ∈ [0x01#8, 0x03#8, 0x04#8, 0x05#8] ∧ w.extractLsb' 8 24 ≠ 0) ∨
        (w.extractLsb' 0 8 = 0x02#8 ∧ w.extractLsb' 10 22 ≠ 0) ∨
        (w.extractLsb' 0 8 = 0x06#8 ∧ w.extractLsb' 16 16 ≠ 0)) ∧
    ((∃ e, decode w = .error e) ↔ ∀ i : Instr, encode i ≠ w) ∧
    ∀ s : State, (∃ e, decode w = .error e) → s.busy = false →
      cmdWrite w s = .next { s with result := .errIllegal }

/-- Rule R88: the code of every result; no result has a reserved code. -/
def Obligations.ResultCodesAreThoseOfTheTable : Prop :=
  ResultCode.none.code = 0x0#4 ∧ ResultCode.done.code = 0x1#4 ∧ ResultCode.frame.code = 0x2#4 ∧
    ResultCode.noData.code = 0x3#4 ∧ ResultCode.insufficient.code = 0x4#4 ∧
    ResultCode.badVersion.code = 0x5#4 ∧ ResultCode.badChecksum.code = 0x6#4 ∧
    ResultCode.errNotInit.code = 0x8#4 ∧ ResultCode.errNoSource.code = 0x9#4 ∧
    ResultCode.errReinit.code = 0xA#4 ∧ ResultCode.errIllegal.code = 0xB#4 ∧
    ∀ c : ResultCode, c.code ∉ [0x7#4, 0xC#4, 0xD#4, 0xE#4, 0xF#4]

/-! ## The step and the host register space -/

/-- A step runs the decoded command. When the next turn is a CMD write whose word decodes to a command, the step is exec
of that command once the turn is taken; an illegal word ends with ERR_ILLEGAL unless it is dropped; and the state
`withFetchWord` makes runs the command of its word. Taking a turn changes nothing but the coming turns: those of the
schedule, then the recurring ones, then the block's. The turns are the model's own (assumption log 1, 2, 24). -/
def Obligations.StepRunsTheDecodedCommand : Prop :=
  (∀ (s : State) (w : Word) (i : Instr),
    s.nextAction = .regWrite 0x00 w → decode w = .ok i → i.wellFormed = true → step s = exec i s.endTurn) ∧
  (∀ (s : State) (w : Word) (e : Illegal), s.nextAction = .regWrite 0x00 w → decode w = .error e →
    step s = if s.busy then .next { s.endTurn with cmdOvr := true }
      else .next { s.endTurn with result := .errIllegal }) ∧
  (∀ (s : State) (i : Instr), i.wellFormed = true → step (s.withFetchWord 32 (encode i).toNat) = exec i s) ∧
  ∀ (s : State) (a : Action) (rest : List Action),
    (s.schedule = a :: rest → s.nextAction = a ∧ s.endTurn = { s with schedule := rest }) ∧
    (s.schedule = [] → s.recurring = a :: rest → s.nextAction = a ∧ s.endTurn = { s with schedule := rest }) ∧
    (s.schedule = [] → s.recurring = [] → s.nextAction = .block ∧ s.endTurn = s)

/-- Rule R52: a step of an agent is refused exactly when it is a host access that does not move 32 bits, is
misaligned, or lies at an offset of 0x100 or more. -/
def Obligations.RefusedExactlyOutsideTheContract : Prop :=
  ∀ (s : State) (act : Action),
    (∃ r, agentStep act s = .refused r) ↔
      ∃ a : Access, act = .host a ∧ ¬(a.bytes = 4 ∧ a.off % 4 = 0 ∧ a.off < 0x100)

/-- Rule R54 (reads): a `RegRead` changes nothing. That the turn is taken and that the value joins the host's record of
reads are the model's own choices (assumption log 1, 7). -/
def Obligations.RegReadChangesNothing : Prop :=
  ∀ (s : State) (off : Nat), s.nextAction = .regRead off → off % 4 = 0 → off < 0x100 →
    step s = .next { s.endTurn with reads := s.reads ++ [⟨off, regRead off s⟩] }

/-- 20_memory.md section 3, the register map: the content of every register at its offset, for every state. -/
def Obligations.RegisterMapContents : Prop :=
  ∀ s : State,
    regRead 0x00 s = 0 ∧
    ((regRead 0x04 s).extractLsb' 0 4 = s.result.code ∧ (regRead 0x04 s).getLsbD 4 = s.busy ∧
      ((regRead 0x04 s).getLsbD 5 = true ↔ s.cfg = .configured) ∧ (regRead 0x04 s).getLsbD 6 = s.cbValid ∧
      (regRead 0x04 s).getLsbD 7 = s.frameValid ∧ (regRead 0x04 s).getLsbD 8 = s.cmdOvr ∧
      (regRead 0x04 s).getLsbD 9 = s.srcPresent ∧
      ((regRead 0x04 s).getLsbD 10 = true ↔ s.srcPresent = true ∧ s.src ≠ [])) ∧
    (regRead 0x08 s = s.argSpeed ∧ regRead 0x0C s = s.argAngle ∧ regRead 0x10 s = s.argPwm ∧
      regRead 0x14 s = s.argCb) ∧
    (regRead 0x18 s).toNat = s.crcAcc.toNat ∧
    regRead 0x1C s = 0x2F2C540C#32 ∧
    (s.cfg = .configured → regRead 0x20 s = s.settings.speed ∧ regRead 0x24 s = s.settings.angle ∧
      regRead 0x28 s = s.settings.pwmFreq) ∧
    (s.cfg = .unconfigured → regRead 0x20 s = 0 ∧ regRead 0x24 s = 0 ∧ regRead 0x28 s = 0) ∧
    (s.cbValid = true → regRead 0x2C s = s.cbHandle) ∧ (s.cbValid = false → regRead 0x2C s = 0) ∧
    ((regRead 0x30 s).toNat = s.frame.speed.toNat ∧ (regRead 0x34 s).toNat = s.frame.startAngle.toNat ∧
      (regRead 0x38 s).toNat = s.frame.endAngle.toNat ∧ (regRead 0x3C s).toNat = s.frame.timestamp.toNat) ∧
    ((regRead 0x40 s).extractLsb' 0 7 = BitVec.ofNat 7 s.buf.length ∧
      (regRead 0x40 s).extractLsb' 8 7 = BitVec.ofNat 7 s.replay.length) ∧
    (∀ (i : Nat) (h : i < 12), (regRead (0x80 + 4 * i) s).extractLsb' 0 16 = s.frame.dist[i] ∧
      (regRead (0x80 + 4 * i) s).extractLsb' 16 8 = s.frame.conf[i]) ∧
    ∀ i : Nat, 12 ≤ i → i < 32 → regRead (0x80 + 4 * i) s = 0

/-- Rule R53: unmapped offsets read 0; a write to an unmapped or read-only offset is ignored; reserved bits read 0; a
write to an ARG register stores all 32 bits. -/
def Obligations.UnmappedReadOnlyAndReservedBits : Prop :=
  ∀ s : State,
    (∀ off, 0x44 ≤ off → off ≤ 0x7C → off % 4 = 0 → regRead off s = 0) ∧
    (∀ (off : Nat) (v : Word), off % 4 = 0 → off < 0x100 → off ∉ [0x00, 0x08, 0x0C, 0x10, 0x14] →
      agentStep (.regWrite off v) s = .next s) ∧
    ((regRead 0x04 s).extractLsb' 11 21 = 0 ∧ (regRead 0x18 s).extractLsb' 8 24 = 0 ∧
      (regRead 0x40 s).getLsbD 7 = false ∧ (regRead 0x40 s).extractLsb' 15 17 = 0 ∧
      (∀ off ∈ [0x30, 0x34, 0x38, 0x3C], (regRead off s).extractLsb' 16 16 = 0) ∧
      ∀ i : Nat, i < 32 → (regRead (0x80 + 4 * i) s).extractLsb' 24 8 = 0) ∧
    ∀ (off : Nat) (v : Word), off ∈ [0x08, 0x0C, 0x10, 0x14] →
      ∃ t, agentStep (.regWrite off v) s = .next t ∧ regRead off t = v

/-- Rule R58: a write to an ARG register is accepted whatever `busy` holds, stores the value and nothing else, and the
step of a running READ_FRAME is the same whatever the ARG registers hold. -/
def Obligations.ArgWriteIsAcceptedWhileBusy : Prop :=
  (∀ (s : State) (v : Word),
    agentStep (.regWrite 0x08 v) s = .next { s with argSpeed := v } ∧
    agentStep (.regWrite 0x0C v) s = .next { s with argAngle := v } ∧
    agentStep (.regWrite 0x10 v) s = .next { s with argPwm := v } ∧
    agentStep (.regWrite 0x14 v) s = .next { s with argCb := v }) ∧
  ∀ (s t : State) (x a p c : Word), blockStep s = .next t →
    blockStep { s with argSpeed := x, argAngle := a, argPwm := p, argCb := c } =
      .next { t with argSpeed := x, argAngle := a, argPwm := p, argCb := c }

/-- Rule R57: a CMD write while `busy` = 1, whatever its word, changes nothing but `cmd_ovr`. -/
def Obligations.CmdWriteWhileBusyIsDropped : Prop :=
  ∀ (s : State) (w : Word), s.busy = true → agentStep (.regWrite 0x00 w) s = .next { s with cmdOvr := true }

/-- Rule R205: the first of the conditions that applies to a CMD write decides: busy, illegal, the controller's state,
the byte source; otherwise the command runs. Within a running READ_FRAME the empty stream is tested before a byte is
taken, and a byte gives one outcome. -/
def Obligations.CmdWritePriority : Prop :=
  (∀ (s : State) (w : Word),
    (s.busy = true → cmdWrite w s = .next { s with cmdOvr := true }) ∧
    (s.busy = false → (∃ e, decode w = .error e) → cmdWrite w s = .next { s with result := .errIllegal }) ∧
    ∀ i, s.busy = false → decode w = .ok i →
      ((i = .readFrame ∨ ∃ a p, i = .configure a p) → s.cfg = .unconfigured →
        cmdWrite w s = .next { s with result := .errNotInit }) ∧
      (i = .initDefaults → s.cfg = .configured → cmdWrite w s = .next { s with result := .errReinit }) ∧
      (i = .readFrame → s.cfg = .configured → s.srcPresent = false →
        cmdWrite w s = .next { s with result := .errNoSource }) ∧
      (¬((i = .readFrame ∨ ∃ a p, i = .configure a p) ∧ s.cfg = .unconfigured) →
        ¬(i = .initDefaults ∧ s.cfg = .configured) → ¬(i = .readFrame ∧ s.srcPresent = false) →
        ∃ t, cmdWrite w s = .next t ∧
          ((i = .readFrame ∧ t.busy = true) ∨ (i ≠ .readFrame ∧ t.busy = false ∧ t.result = .done)))) ∧
  ∀ s : State, s.busy = true →
    (s.replay = [] → s.src = [] → blockStep s =
      .next { s with busy := false, result := if s.buf = [] then .noData else .insufficient }) ∧
    ∀ t, ¬(s.replay = [] ∧ s.src = []) → blockStep s = .next t →
      (t.busy = true ∧ t.result = s.result) ∨
        (t.busy = false ∧ t.result ∈ [ResultCode.frame, ResultCode.badVersion, ResultCode.badChecksum])

/-- Rule R63 and the BASE row of rule R10: BASE is 256-byte aligned, and the admitted accesses are the aligned words of
the 256 bytes from BASE on, one offset for each. -/
def Obligations.BusWindowIsTwoHundredFiftySixBytes : Prop :=
  Config.base % 256 = 0 ∧
    (∀ a : Access, a.wellFormed = true →
      Config.base ≤ a.busAddr ∧ a.busAddr < Config.base + 256 ∧ a.busAddr % 4 = 0) ∧
    ∀ a b : Access, a.busAddr = b.busAddr → a.off = b.off

/-! ## The commands -/

/-- Rule R115: CRC_CLEAR. -/
def Obligations.CrcClearSetsTheSeed : Prop :=
  encode .crcClear = 0x00000005#32 ∧
    ∀ s : State,
      (s.busy = false → exec .crcClear s = .next { s with crcAcc := 0x00, result := .done }) ∧
      (s.busy = true → exec .crcClear s = .next { s with cmdOvr := true })

/-- Rule R116: CRC_FEED, its words, its one step, in both controller states; the words with a bit of [31:16] set; the
rule's corner case and example over the reference table. -/
def Obligations.CrcFeedTakesOneStep : Prop :=
  (∀ b : Byte, encode (.crcFeed b) = 0x00000006#32 ||| (b.setWidth 32 <<< 8)) ∧
    (∀ (s : State) (b : Byte), s.busy = false →
      exec (.crcFeed b) s = .next { s with crcAcc := Config.crcTable (s.crcAcc ^^^ b), result := .done }) ∧
    (∀ (s : State) (w : Word), w.extractLsb' 16 16 ≠ 0 → s.busy = false →
      cmdWrite w s = .next { s with result := .errIllegal }) ∧
    (∀ c : Byte, crcStep refParams c c = 0x00) ∧
    (crcStep refParams 0x00 0x54#8 = 0xEE#8 ∧ crcStep refParams 0xEE 0x2C#8 = 0xD8#8)

/-- Rule R171: INIT_DEFAULTS, in each controller state, and while a READ_FRAME runs. -/
def Obligations.InitDefaultsLoadsThePowerOnSettings : Prop :=
  encode .initDefaults = 0x00000001#32 ∧
    ∀ s : State,
      (s.busy = false → s.cfg = .configured → exec .initDefaults s = .next { s with result := .errReinit }) ∧
      (s.busy = false → s.cfg = .unconfigured → exec .initDefaults s = .next
        { s with
          settings := ⟨Config.defaultSpeed, 360#32, 10000#32⟩
          cfg := .configured
          events := s.events ++ if s.cbValid then
            [⟨s.cbHandle, Config.defaultSpeed, 360#32, 10000#32, Config.pwmDerive 10000#32⟩] else []
          result := .done }) ∧
      (s.busy = true → exec .initDefaults s = .next { s with cmdOvr := true })

/-- Rule R174: CONFIGURE, for each of its four words. -/
def Obligations.ConfigureReplacesTheSettings : Prop :=
  (∀ a p : Bool, encode (.configure a p) =
    0x00000002#32 ||| (if a then 0x100#32 else 0#32) ||| (if p then 0x200#32 else 0#32)) ∧
    ∀ (s : State) (a p : Bool), s.busy = false →
      (s.cfg = .unconfigured → exec (.configure a p) s = .next { s with result := .errNotInit }) ∧
      (s.cfg = .configured → ∀ angle pwm : Word,
        angle = (if a then s.argAngle else 360#32) → pwm = (if p then s.argPwm else 10000#32) →
        exec (.configure a p) s = .next
          { s with
            settings := ⟨s.argSpeed, angle, pwm⟩
            events := s.events ++
              if s.cbValid then [⟨s.cbHandle, s.argSpeed, angle, pwm, Config.pwmDerive pwm⟩] else []
            result := .done })

/-- Rule R175: a CONFIGURE that runs emits exactly one event if a callback is registered and none otherwise, also when
it leaves the settings as they were; the event carries the settings the same step leaves; one that fails emits
none. -/
def Obligations.ConfigureEmitsExactlyOnce : Prop :=
  ∀ (s t : State) (a p : Bool), s.busy = false → exec (.configure a p) s = .next t →
    (s.cfg = .configured → s.cbValid = true →
      t.events = s.events ++
        [⟨s.cbHandle, t.settings.speed, t.settings.angle, t.settings.pwmFreq,
          Config.pwmDerive t.settings.pwmFreq⟩]) ∧
    (s.cfg = .configured → s.cbValid = false → t.events = s.events) ∧
    (s.cfg = .unconfigured → t.events = s.events ∧ t.result = .errNotInit)

/-- Rule R177: REGISTER_CB, in both controller states and for every handle, 0 included; no agent's step but a reset
clears the slot. -/
def Obligations.RegisterCbFillsTheSlot : Prop :=
  encode .registerCb = 0x00000003#32 ∧
    (∀ s : State, s.busy = false →
      exec .registerCb s = .next { s with cbValid := true, cbHandle := s.argCb, result := .done }) ∧
    ∀ (s t : State) (act : Action), agentStep act s = .next t → act ≠ .reset → s.cbValid = true → t.cbValid = true

/-- 41_frame_decoder.md section 4, the acceptance step of READ_FRAME: no byte is taken; the command starts, or ends
with its error. -/
def Obligations.ReadFrameAcceptance : Prop :=
  encode .readFrame = 0x00000004#32 ∧
    ∀ s : State, s.busy = false →
      (s.cfg = .unconfigured → exec .readFrame s = .next { s with result := .errNotInit }) ∧
      (s.cfg = .configured → s.srcPresent = false → exec .readFrame s = .next { s with result := .errNoSource }) ∧
      (s.cfg = .configured → s.srcPresent = true → exec .readFrame s = .next { s with busy := true })

/-- Rule R204: every command but READ_FRAME completes in its acceptance step, so does an error of READ_FRAME, and only
a READ_FRAME that passes both checks leaves `busy` = 1. -/
def Obligations.CommandsCompleteInTheirAcceptanceStep : Prop :=
  ∀ (s : State) (i : Instr), s.busy = false →
    ∃ t, exec i s = .next t ∧
      (i ≠ .readFrame → t.busy = false ∧ t.result ≠ .none) ∧
      (i = .readFrame → (t.busy = true ↔ s.cfg = .configured ∧ s.srcPresent = true) ∧
        (t.busy = false → t.result.isError = true))

/-- 60_exceptions.md section 1: a command that ends with a code from 0x8 to 0xB has changed nothing but `result`. -/
def Obligations.ErrorsHaveNoPartialEffect : Prop :=
  ∀ (s t : State) (w : Word), cmdWrite w s = .next t → s.busy = false → t.busy = false →
    8 ≤ t.result.code.toNat → t = { s with result := t.result }

/-- The frame of every command (10_state.md sections 2 to 6): what each leaves unchanged, register by register. -/
def Obligations.FrameOfEveryCommand : Prop :=
  ∀ (s t : State) (i : Instr), exec i s = .next t →
    (t.argSpeed = s.argSpeed ∧ t.argAngle = s.argAngle ∧ t.argPwm = s.argPwm ∧ t.argCb = s.argCb) ∧
    (t.buf = s.buf ∧ t.replay = s.replay ∧ t.frame = s.frame ∧ t.frameValid = s.frameValid) ∧
    (t.src = s.src ∧ t.srcPresent = s.srcPresent ∧ t.reads = s.reads ∧ t.schedule = s.schedule ∧
      t.recurring = s.recurring) ∧
    (i ≠ .initDefaults → t.cfg = s.cfg) ∧
    (i ≠ .initDefaults → (∀ a p, i ≠ .configure a p) → t.settings = s.settings ∧ t.events = s.events) ∧
    (i ≠ .registerCb → t.cbValid = s.cbValid ∧ t.cbHandle = s.cbHandle) ∧
    (i ≠ .crcClear → (∀ b, i ≠ .crcFeed b) → t.crcAcc = s.crcAcc) ∧
    (i ≠ .readFrame → t.busy = s.busy) ∧
    (s.busy = false → t.cmdOvr = s.cmdOvr) ∧
    (s.busy = true → t = { s with cmdOvr := true })

/-- Rule R91, `configure s, a, p`: the expansion's four host turns leave the three settings at the arguments, with one
event if a callback is registered. The run is the model's (assumption log 1). -/
def Obligations.PseudoConfigureSetsAllThree : Prop :=
  ∀ (s : State) (x a p : Word), s.busy = false → s.cfg = .configured → s.schedule = [] →
    runSteps 4 (s.withHostProgram (Pseudo.configureFull x a p).expand) = .next
      { s with
        argSpeed := x
        argAngle := a
        argPwm := p
        settings := ⟨x, a, p⟩
        events := s.events ++ if s.cbValid then [⟨s.cbHandle, x, a, p, Config.pwmDerive p⟩] else []
        result := .done }

/-! ## The checksum -/

/-- Rule R111: the recurrence of `crc8`, for every table. -/
def Obligations.CrcRecurrence : Prop :=
  ∀ P : Config.Params, crc8 P [] = 0x00 ∧
    ∀ (bs : List Byte) (b : Byte), crc8 P (bs ++ [b]) = P.crcTable ((crc8 P bs ^^^ b) &&& 0xFF)

/-- 40_checksum.md section 3: CRC_CLEAR and then one CRC_FEED for each byte of a list leave `crc_acc` at `crc8` of the
list, with the table the frame decoder uses. The run is the model's (assumption log 1). -/
def Obligations.HostFeedsComputeCrc : Prop :=
  ∀ (s : State) (bs : List Byte), s.busy = false → s.schedule = [] →
    runSteps (1 + bs.length) (s.withHostProgram (Pseudo.checksum bs).expand) = .next
      { s with crcAcc := crc8 Config.params bs, result := .done }

/-- 40_checksum.md section 2: the reference instance's table sends 0 to 0, is linear and has distinct entries, and its
check value is 0xC3. It says nothing about `CRC_TABLE`. -/
def Obligations.ReferenceTableIsLinearBijection : Prop :=
  refTable 0 = 0 ∧ (∀ a b : Byte, refTable (a ^^^ b) = refTable a ^^^ refTable b) ∧
    (∀ a b : Byte, refTable a = refTable b → a = b) ∧
    crc8 refParams [0x31, 0x32, 0x33, 0x34, 0x35, 0x36, 0x37, 0x38, 0x39] = 0xC3#8

/-- 40_checksum.md section 2: over the reference table a change of exactly one byte changes `crc8` of a list. -/
def Obligations.ReferenceCrcDetectsSingleByteChange : Prop :=
  ∀ (xs ys : List Byte) (b c : Byte), b ≠ c → crc8 refParams (xs ++ b :: ys) ≠ crc8 refParams (xs ++ c :: ys)

/-! ## The byte step -/

/-- Rule R133: while hunting a header byte starts a candidate, every other byte is discarded, and one READ_FRAME may
discard any number. The run is the model's (assumption log 1). -/
def Obligations.HuntingDiscardsUntilHeader : Prop :=
  (∀ (P : Config.Params) (s : State) (b : Byte), s.buf = [] →
    (b = 0x54#8 → decStep P b s = (.cont, { s with buf := [0x54#8] })) ∧ (b ≠ 0x54#8 → decStep P b s = (.cont, s))) ∧
  ∀ (s : State) (noise rest : List Byte), s.busy = true → s.schedule = [] → s.recurring = [] →
    s.buf = [] → s.replay = [] → (∀ b ∈ noise, b ≠ 0x54#8) → s.src = noise ++ rest →
      runSteps noise.length s = .next { s with src := rest }

/-- Rules R134 and R135: the version byte is appended; any other byte rejects the candidate, discards the header alone,
is the next byte of the stream, and starts a new candidate if it is a header. -/
def Obligations.VersionAcceptAndReject : Prop :=
  ∀ (P : Config.Params) (s : State) (b : Byte), s.buf = [0x54#8] →
    (b = 0x2C#8 → decStep P b s = (.cont, { s with buf := [0x54#8, 0x2C#8] })) ∧
    (b ≠ 0x2C#8 → ∃ t u, decStep P b s = (.badVersion, t) ∧ t = { s with buf := [], replay := b :: s.replay } ∧
      t.take = some (b, u) ∧ u = { s with buf := [] } ∧
      (b = 0x54#8 → decStep P b u = (.cont, { u with buf := [0x54#8] })))

/-- Rule R137: body bytes are captured without inspection; the byte at PKT_LEN − 1 is compared with `crc8(buf)`; a
mismatch pushes PKT_LEN − 1 bytes back; `crc_acc` is neither read nor written. -/
def Obligations.BodyCaptureAndChecksumCheck : Prop :=
  ∀ (P : Config.Params) (s : State) (b : Byte),
    (2 ≤ s.buf.length → s.buf.length ≤ 45 → decStep P b s = (.cont, { s with buf := s.buf ++ [b] })) ∧
    (s.buf.length = 46 → crc8 P s.buf = b → (decStep P b s).1 = .frame) ∧
    (s.buf.length = 46 → crc8 P s.buf ≠ b →
      decStep P b s = (.badChecksum, { s with buf := [], replay := s.buf.tail ++ [b] ++ s.replay }) ∧
        (s.buf.tail ++ [b]).length = 46) ∧
    ∀ c : Byte, decStep P b { s with crcAcc := c } = ((decStep P b s).1, { (decStep P b s).2 with crcAcc := c })

/-- Rule R138: the FRAME outcome writes every frame register from the packet's bytes, sets `frame_valid`, empties `buf`
and leaves everything else, `replay` included. -/
def Obligations.FrameOutcomeWritesEveryField : Prop :=
  ∀ (P : Config.Params) (s : State) (b : Byte) (p : List Byte),
    s.buf.length = 46 → crc8 P s.buf = b → p = s.buf ++ [b] →
    ∃ f : Frame, decStep P b s = (.frame, { s with frame := f, frameValid := true, buf := [] }) ∧
      f.speed.toNat = (p.getD 2 0).toNat + 256 * (p.getD 3 0).toNat ∧
      f.startAngle.toNat = (p.getD 4 0).toNat + 256 * (p.getD 5 0).toNat ∧
      (∀ (i : Nat) (h : i < 12), f.dist[i].toNat = (p.getD (6 + 3 * i) 0).toNat + 256 * (p.getD (7 + 3 * i) 0).toNat ∧
        f.conf[i] = p.getD (8 + 3 * i) 0) ∧
      f.endAngle.toNat = (p.getD 42 0).toNat + 256 * (p.getD 43 0).toNat ∧
      f.timestamp.toNat = (p.getD 44 0).toNat + 256 * (p.getD 45 0).toNat

/-- 41_frame_decoder.md section 3, minimal discard: what a byte step does to the bytes it holds and will see, in order
(`buf`, then `replay`, then the byte source). Only a byte discarded while hunting, the header of a rejected candidate,
or a delivered packet of PKT_LEN bytes leaves. In a state of the block the header is 0x54 and the packet is valid. -/
def Obligations.ByteStepDiscardsMinimally : Prop :=
  ∀ s t : State, s.busy = true → blockStep s = .next t →
    ((t.busy = true ∨ t.result = .noData ∨ t.result = .insufficient) ∧ t.frame = s.frame ∧
      t.buf ++ t.replay ++ t.src = s.buf ++ s.replay ++ s.src) ∨
    (∃ b, b ≠ 0x54#8 ∧ s.buf = [] ∧ t.buf = [] ∧ t.busy = true ∧ t.frame = s.frame ∧
      s.replay ++ s.src = b :: (t.replay ++ t.src)) ∨
    (∃ h, s.buf.head? = some h ∧ (s.Inv → h = 0x54#8) ∧
      (t.result = .badVersion ∧ s.buf.length = 1 ∨ t.result = .badChecksum ∧ s.buf.length = 46) ∧
      t.busy = false ∧ t.buf = [] ∧ t.frame = s.frame ∧
      s.buf ++ s.replay ++ s.src = h :: (t.replay ++ t.src)) ∨
    (∃ b, s.buf.length = 46 ∧ crc8 Config.params s.buf = b ∧ (s.Inv → validPacket Config.params (s.buf ++ [b])) ∧
      t.result = .frame ∧ t.busy = false ∧ t.buf = [] ∧ t.frame = decodeFrame (s.buf ++ [b]) ∧
      s.buf ++ s.replay ++ s.src = (s.buf ++ [b]) ++ (t.replay ++ t.src))

/-! ## Runs of READ_FRAME (where no turn is pending the block alone acts, assumption log 1) -/

/-- 41_frame_decoder.md section 5, property 3: the packet built from any frame is valid and decodes to that frame, for
every table. -/
def Obligations.PacketOfFrameRoundTrips : Prop :=
  ∀ (P : Config.Params) (f : Frame), validPacket P (packetOf P f) ∧ decodeFrame (packetOf P f) = f

/-- 41_frame_decoder.md sections 4 and 5, property 3, and 70_reset_and_hazards.md section 4: a READ_FRAME that finds
the packet of any frame at the head of the byte source delivers exactly that frame after 1 + PKT_LEN steps and takes
no byte beyond it. The run is of the block alone (assumption log 1). -/
def Obligations.ValidPacketIsDelivered : Prop :=
  ∀ (s : State) (f : Frame) (rest : List Byte), s.busy = false → s.cfg = .configured → s.srcPresent = true →
    s.buf = [] → s.replay = [] → s.src = packetOf Config.params f ++ rest →
    s.schedule = [.regWrite 0x00 (encode .readFrame)] → s.recurring = [] →
      runSteps 48 s = .next
        { s with schedule := [], src := rest, frame := f, frameValid := true, result := .frame }

/-- 41_frame_decoder.md section 5, property 1: a proper prefix of a valid packet gives NO_DATA when empty, else
INSUFFICIENT with the prefix kept in `buf`; no frame register changes. The run is of the block alone (assumption
log 1). -/
def Obligations.PrefixOfValidPacketGivesNoFrame : Prop :=
  ∀ (s : State) (p : List Byte) (n : Nat), validPacket Config.params p → n < 47 →
    s.busy = true → s.schedule = [] → s.recurring = [] → s.buf = [] → s.replay = [] → s.src = p.take n →
      runSteps (n + 1) s = .next
        { s with src := [], buf := p.take n, busy := false, result := if n = 0 then .noData else .insufficient }

/-- 41_frame_decoder.md section 4: a packet that arrives in two pieces is completed by the second READ_FRAME, wherever
it is cut. The schedule of the agents is the model's (assumption log 1). -/
def Obligations.SplitPacketIsCompleted : Prop :=
  ∀ (s : State) (p : List Byte) (n : Nat), validPacket Config.params p → n < 47 →
    s.busy = true → s.cfg = .configured → s.srcPresent = true → s.buf = [] → s.replay = [] → s.src = p.take n →
    s.schedule = List.replicate (n + 1) .block ++ [.source (p.drop n), .regWrite 0x00 (encode .readFrame)] →
    s.recurring = [] →
      runSteps 50 s = .next
        { s with
          schedule := [], src := [], frame := decodeFrame p, frameValid := true, busy := false, result := .frame }

/-- 41_frame_decoder.md sections 3 and 5, property 2: a candidate with a wrong version byte or, for whatever table, a
wrong checksum byte ends the READ_FRAME with its reject, and every byte after the header is back in the stream. The
run is of the block alone (assumption log 1). -/
def Obligations.RejectDiscardsOnlyTheHeader : Prop :=
  (∀ (s : State) (b : Byte) (rest : List Byte), s.busy = true → s.schedule = [] → s.recurring = [] → s.buf = [] →
    s.replay = [] → b ≠ 0x2C#8 → s.src = 0x54#8 :: b :: rest →
      runSteps 2 s = .next { s with src := rest, replay := [b], busy := false, result := .badVersion }) ∧
  ∀ (s : State) (body rest : List Byte) (c : Byte), s.busy = true → s.schedule = [] → s.recurring = [] → s.buf = [] →
    s.replay = [] → body.length = 44 → c ≠ crc8 Config.params (0x54#8 :: 0x2C#8 :: body) →
    s.src = 0x54#8 :: 0x2C#8 :: body ++ c :: rest →
      runSteps 47 s = .next
        { s with src := rest, replay := 0x2C#8 :: body ++ [c], busy := false, result := .badChecksum }

/-- 41_frame_decoder.md section 5, property 4: on a packet with a wrong checksum byte that holds no further header byte
the first READ_FRAME ends with BAD_CHECKSUM, no frame, and 46 bytes to rescan; the next one delivers the packet that
follows. The schedule of the agents is the model's (assumption log 1). -/
def Obligations.FreshPacketAfterCorruptOne : Prop :=
  ∀ (s : State) (body p : List Byte) (c : Byte), s.busy = true → s.cfg = .configured → s.srcPresent = true →
    s.buf = [] → s.replay = [] → body.length = 44 → (∀ b ∈ body, b ≠ 0x54#8) → c ≠ 0x54#8 →
    c ≠ crc8 Config.params (0x54#8 :: 0x2C#8 :: body) → validPacket Config.params p →
    s.src = 0x54#8 :: 0x2C#8 :: body ++ c :: p →
    s.schedule = List.replicate 47 .block ++ [.regWrite 0x00 (encode .readFrame)] → s.recurring = [] →
      runSteps 47 s = .next
        { s with
          schedule := [.regWrite 0x00 (encode .readFrame)], src := p, replay := 0x2C#8 :: body ++ [c], busy := false
          result := .badChecksum } ∧
      runSteps 141 s = .next
        { s with
          schedule := [], src := [], frame := decodeFrame p, frameValid := true, busy := false, result := .frame }

/-- 41_frame_decoder.md section 4, termination: with finitely many bytes to come a running READ_FRAME ends, after at
most one step for each byte and one more. That no turn is pending, so that no byte arrives, is the model's form of
"finitely many" (assumption log 1, 24). -/
def Obligations.ReadFrameEndsOnFiniteStream : Prop :=
  ∀ s : State, s.Inv → s.busy = true → s.schedule = [] → s.recurring = [] →
    ∃ (k : Nat) (t : State), k ≤ s.replay.length + s.src.length + 1 ∧ runSteps k s = .next t ∧ t.busy = false ∧
      t.result ∈ [ResultCode.frame, ResultCode.noData, ResultCode.insufficient, ResultCode.badVersion,
        ResultCode.badChecksum]

/-- 41_frame_decoder.md section 4 and 60_exceptions.md section 5, the hang: while the byte source keeps supplying bytes
that hold no header, and whatever the host writes to CMD between them, a READ_FRAME takes every byte and never ends;
only a reset stops it. The recurring turns are the model's form of a stream without end (assumption log 24). -/
def Obligations.ReadFrameOnEndlessNoiseNeverEnds : Prop :=
  (∀ (s : State) (noise : List Byte) (words : List Word), s.busy = true → s.buf = [] → s.replay = [] → s.src = [] →
    noise ≠ [] → (∀ b ∈ noise, b ≠ 0x54#8) → s.schedule = [] →
    s.recurring = .source noise :: List.replicate noise.length .block ++ words.map (.regWrite 0x00) →
      (∀ k : Nat, ∃ t, runSteps k s = .next t ∧ t.busy = true ∧ t.result = s.result) ∧
      ∀ n : Nat, runSteps (n * s.recurring.length) s = .next
        { s with cmdOvr := if n = 0 ∨ words = [] then s.cmdOvr else true }) ∧
  ∀ s : State, s.nextAction = .reset → ∃ t, step s = .next t ∧ t.busy = false ∧ t.recurring = s.recurring

/-- 20_memory.md section 7: a host that polls while finitely many bytes are to come finds BUSY = 0, and its next turn
comes when no READ_FRAME runs. The polling interleaving is the model's choice (assumption log 1, 12). -/
def Obligations.PollReturnsWithTheBlockIdle : Prop :=
  ∀ s : State, s.Inv → s.nextAction = .poll →
    ∃ (k : Nat) (t : State), k ≤ 2 * (s.replay.length + s.src.length) + 3 ∧ runSteps k s = .next t ∧
      t.schedule = s.endTurn.schedule ∧ t.busy = false ∧
      ∃ v : Word, t.reads.getLast? = some ⟨0x04, v⟩ ∧ v.getLsbD 4 = false

/-! ## The invariant -/

/-- The reset state is a state of the block. -/
def Obligations.ResetMeetsTheInvariant : Prop := State.reset.Inv

/-- 10_state.md section 5: every step of every agent keeps the invariant, and with it the bounds of the two queues,
which fit the DEC_STATE fields. The bound on the sum of the queues is DEDUCED (assumption log 16). -/
def Obligations.StepKeepsTheInvariant : Prop :=
  ∀ s t : State, s.Inv → step s = .next t → t.Inv ∧ t.buf.length ≤ 46 ∧ t.replay.length ≤ 46

/-- 60_exceptions.md section 5, no stuck state: from a state of the block no step is a fault, an idle block accepts
every CMD write, and a running READ_FRAME always has a byte step. That a write is accepted shows in what it leaves:
`busy` rises, or `result` is written, with one code whatever it held before; `cmd_ovr` is kept. -/
def Obligations.NoStateIsStuck : Prop :=
  ∀ s : State, s.Inv →
    (∀ r, step s ≠ .fault r) ∧
    (s.busy = false → ∀ w : Word, s.nextAction = .regWrite 0x00 w →
      (∃ t, step s = .next t ∧ t.busy = true ∧ t.cmdOvr = s.cmdOvr) ∨
        ∃ r, r ≠ ResultCode.none ∧ ∀ c, ∃ t, step { s with result := c } = .next t ∧ t.busy = false ∧
          t.result = r ∧ t.cmdOvr = s.cmdOvr) ∧
    (s.busy = true → s.nextAction = .block → ∃ t, step s = .next t)

/-! ## Whole-machine rules -/

/-- Rule R230, and the reset column of rule R22: a hardware reset puts every field of the block to its reset value and
leaves the environment's. -/
def Obligations.HardwareResetClearsTheBlock : Prop :=
  ∀ s : State, ∃ t, agentStep .reset s = .next t ∧
    t.cfg = .unconfigured ∧ t.settings = ⟨0, 0, 0⟩ ∧ t.cbValid = false ∧ t.cbHandle = 0 ∧ t.argSpeed = 0 ∧
    t.argAngle = 0 ∧ t.argPwm = 0 ∧ t.argCb = 0 ∧ t.crcAcc = 0x00 ∧ t.buf = [] ∧ t.replay = [] ∧
    (t.frame.speed = 0 ∧ t.frame.startAngle = 0 ∧ t.frame.endAngle = 0 ∧ t.frame.timestamp = 0 ∧
      ∀ (i : Nat) (h : i < 12), t.frame.dist[i] = 0 ∧ t.frame.conf[i] = 0) ∧
    t.frameValid = false ∧ t.busy = false ∧ t.result = .none ∧ t.cmdOvr = false ∧
    t.src = s.src ∧ t.srcPresent = s.srcPresent ∧ t.events = s.events

/-- 70_reset_and_hazards.md section 1: only a reset returns `cfg` to Unconfigured or clears the callback slot,
`frame_valid` or `cmd_ovr`. -/
def Obligations.OnlyResetClearsStickyState : Prop :=
  ∀ s t : State, step s = .next t → ¬resetsNext s →
    (s.cfg = .configured → t.cfg = .configured) ∧ (s.cbValid = true → t.cbValid = true) ∧
      (s.frameValid = true → t.frameValid = true) ∧ (s.cmdOvr = true → t.cmdOvr = true)

/-- 10_state.md section 6, what sets each sticky flag: `cmd_ovr` only a CMD write while `busy` = 1, `frame_valid` only
the FRAME outcome of a byte step, `cb_valid` only a REGISTER_CB. -/
def Obligations.StickyFlagsAreSetOnlyByTheirCause : Prop :=
  ∀ s t : State, step s = .next t →
    (s.cmdOvr = false → t.cmdOvr = true → s.busy = true ∧ ∃ w, s.nextAction = .regWrite 0x00 w) ∧
    (s.frameValid = false → t.frameValid = true →
      byteStepNext s ∧ s.buf.length = 46 ∧ t.result = .frame ∧ t.busy = false) ∧
    (s.cbValid = false → t.cbValid = true → acceptsCmd s (encode .registerCb))

/-- 10_state.md section 3: the only transition of `cfg` but for a reset is Unconfigured to Configured, made by an
accepted INIT_DEFAULTS. -/
def Obligations.OnlyInitDefaultsConfigures : Prop :=
  ∀ s t : State, step s = .next t → t.cfg ≠ s.cfg → ¬resetsNext s →
    s.cfg = .unconfigured ∧ t.cfg = .configured ∧ acceptsCmd s (encode .initDefaults)

/-- 10_state.md section 4: only CRC_CLEAR, CRC_FEED and a reset write `crc_acc`; the frame decoder never does. -/
def Obligations.OnlyChecksumCommandsWriteTheAccumulator : Prop :=
  ∀ s t : State, step s = .next t → t.crcAcc ≠ s.crcAcc → ¬resetsNext s →
    (acceptsCmd s (encode .crcClear) ∧ t.crcAcc = 0x00) ∨
      ∃ b, acceptsCmd s (encode (.crcFeed b)) ∧ t.crcAcc = Config.crcTable (s.crcAcc ^^^ b)

/-- 10_state.md section 3: the settings change only by a reset, an INIT_DEFAULTS or a CONFIGURE, and then all three are
those of that one command. -/
def Obligations.SettingsAreWrittenAsOneTriple : Prop :=
  ∀ s t : State, step s = .next t → t.settings ≠ s.settings → ¬resetsNext s →
    (acceptsCmd s (encode .initDefaults) ∧ t.settings = ⟨Config.defaultSpeed, 360#32, 10000#32⟩) ∨
      ∃ a p, acceptsCmd s (encode (.configure a p)) ∧ s.cfg = .configured ∧
        t.settings = ⟨s.argSpeed, if a then s.argAngle else 360#32, if p then s.argPwm else 10000#32⟩

/-- 10_state.md section 7 and 42_scan_control.md section 2: the output is append-only, and a step that appends is an
INIT_DEFAULTS or CONFIGURE that ends with DONE while a callback is registered; it appends one event, which carries the
settings that step leaves. -/
def Obligations.EventsComeFromTheControllerOnly : Prop :=
  ∀ s t : State, step s = .next t → t.events ≠ s.events →
    s.cbValid = true ∧ t.result = .done ∧
      (acceptsCmd s (encode .initDefaults) ∨ ∃ a p, acceptsCmd s (encode (.configure a p))) ∧
      t.events = s.events ++ [⟨s.cbHandle, t.settings.speed, t.settings.angle, t.settings.pwmFreq,
        Config.pwmDerive t.settings.pwmFreq⟩]

/-- 10_state.md section 3: no command writes an operand register; only the host's write to it and a reset do. -/
def Obligations.OperandRegistersAreWrittenByTheHostOnly : Prop :=
  ∀ s t : State, step s = .next t → ¬resetsNext s →
    (t.argSpeed ≠ s.argSpeed → s.nextAction = .regWrite 0x08 t.argSpeed) ∧
    (t.argAngle ≠ s.argAngle → s.nextAction = .regWrite 0x0C t.argAngle) ∧
    (t.argPwm ≠ s.argPwm → s.nextAction = .regWrite 0x10 t.argPwm) ∧
    (t.argCb ≠ s.argCb → s.nextAction = .regWrite 0x14 t.argCb)

/-- 10_state.md section 6: `busy` rises only at an accepted READ_FRAME that passes both checks and falls only at the
end of a byte step or at a reset. -/
def Obligations.BusyFollowsReadFrame : Prop :=
  ∀ s t : State, step s = .next t → t.busy ≠ s.busy →
    (t.busy = true ∧ acceptsCmd s (encode .readFrame) ∧ s.cfg = .configured ∧ s.srcPresent = true) ∨
      (t.busy = false ∧ (byteStepNext s ∨ resetsNext s))

/-- 70_reset_and_hazards.md section 3 (result lifetime): `result` changes only by an accepted CMD write that ends in its
own step, by the byte step that ends a READ_FRAME, or by a reset. -/
def Obligations.ResultIsWrittenOnlyWhenACommandEnds : Prop :=
  ∀ s t : State, step s = .next t → t.result ≠ s.result → ¬resetsNext s →
    t.busy = false ∧ ((∃ w, acceptsCmd s w) ∨ byteStepNext s)

/-- 41_frame_decoder.md section 3 (validity) and 10_state.md section 5: the frame registers change only by a reset or
by a byte step whose candidate and the byte it takes from the stream are a valid packet, to that packet's fields, with
FRAME and `frame_valid` in the same step. -/
def Obligations.FrameRegistersHoldOnlyValidPackets : Prop :=
  ∀ s t : State, s.Inv → step s = .next t → t.frame ≠ s.frame → ¬resetsNext s →
    byteStepNext s ∧ t.result = .frame ∧ t.frameValid = true ∧ t.busy = false ∧
      ∃ b, s.replay ++ s.src = b :: (t.replay ++ t.src) ∧ validPacket Config.params (s.buf ++ [b]) ∧
        t.frame = decodeFrame (s.buf ++ [b])

/-- 20_memory.md section 5: the byte source is a FIFO, turn by turn: what arrives joins its back, a byte step with an
empty replay queue takes its head, every other turn leaves it; `src_present` never changes. -/
def Obligations.ByteSourceIsFifo : Prop :=
  ∀ s t : State, step s = .next t →
    t.srcPresent = s.srcPresent ∧
    (∀ bs, s.nextAction = .source bs → t.src = s.src ++ bs) ∧
    (∀ b rest, byteStepNext s → s.replay = [] → s.src = b :: rest → t.src = rest) ∧
    ((∀ bs, s.nextAction ≠ .source bs) → ¬(byteStepNext s ∧ s.replay = [] ∧ s.src ≠ []) → t.src = s.src)
end

