-- ==== Sys2Proof/Laws/State.lean ====
section
/-! SUPPORT. One lemma per field per update of the state (Machine/Ops.lean, Machine/HostPort.lean): what the update
writes and what it leaves, so that no later proof unfolds a record update. -/

namespace Sys2Proof.Machine

@[simp] theorem State.finish_cfg (c : ResultCode) (s : State) : (s.finish c).cfg = s.cfg := rfl
@[simp] theorem State.finish_settings (c : ResultCode) (s : State) : (s.finish c).settings = s.settings := rfl
@[simp] theorem State.finish_cbValid (c : ResultCode) (s : State) : (s.finish c).cbValid = s.cbValid := rfl
@[simp] theorem State.finish_cbHandle (c : ResultCode) (s : State) : (s.finish c).cbHandle = s.cbHandle := rfl
@[simp] theorem State.finish_argSpeed (c : ResultCode) (s : State) : (s.finish c).argSpeed = s.argSpeed := rfl
@[simp] theorem State.finish_argAngle (c : ResultCode) (s : State) : (s.finish c).argAngle = s.argAngle := rfl
@[simp] theorem State.finish_argPwm (c : ResultCode) (s : State) : (s.finish c).argPwm = s.argPwm := rfl
@[simp] theorem State.finish_argCb (c : ResultCode) (s : State) : (s.finish c).argCb = s.argCb := rfl
@[simp] theorem State.finish_crcAcc (c : ResultCode) (s : State) : (s.finish c).crcAcc = s.crcAcc := rfl
@[simp] theorem State.finish_buf (c : ResultCode) (s : State) : (s.finish c).buf = s.buf := rfl
@[simp] theorem State.finish_replay (c : ResultCode) (s : State) : (s.finish c).replay = s.replay := rfl
@[simp] theorem State.finish_frame (c : ResultCode) (s : State) : (s.finish c).frame = s.frame := rfl
@[simp] theorem State.finish_frameValid (c : ResultCode) (s : State) : (s.finish c).frameValid = s.frameValid := rfl
@[simp] theorem State.finish_busy (c : ResultCode) (s : State) : (s.finish c).busy = false := rfl
@[simp] theorem State.finish_result (c : ResultCode) (s : State) : (s.finish c).result = c := rfl
@[simp] theorem State.finish_cmdOvr (c : ResultCode) (s : State) : (s.finish c).cmdOvr = s.cmdOvr := rfl
@[simp] theorem State.finish_src (c : ResultCode) (s : State) : (s.finish c).src = s.src := rfl
@[simp] theorem State.finish_srcPresent (c : ResultCode) (s : State) : (s.finish c).srcPresent = s.srcPresent := rfl
@[simp] theorem State.finish_events (c : ResultCode) (s : State) : (s.finish c).events = s.events := rfl
@[simp] theorem State.finish_reads (c : ResultCode) (s : State) : (s.finish c).reads = s.reads := rfl
@[simp] theorem State.finish_schedule (c : ResultCode) (s : State) : (s.finish c).schedule = s.schedule := rfl
@[simp] theorem State.finish_recurring (c : ResultCode) (s : State) : (s.finish c).recurring = s.recurring := rfl

@[simp] theorem State.dropCmd_cfg (s : State) : (s.dropCmd).cfg = s.cfg := rfl
@[simp] theorem State.dropCmd_settings (s : State) : (s.dropCmd).settings = s.settings := rfl
@[simp] theorem State.dropCmd_cbValid (s : State) : (s.dropCmd).cbValid = s.cbValid := rfl
@[simp] theorem State.dropCmd_cbHandle (s : State) : (s.dropCmd).cbHandle = s.cbHandle := rfl
@[simp] theorem State.dropCmd_argSpeed (s : State) : (s.dropCmd).argSpeed = s.argSpeed := rfl
@[simp] theorem State.dropCmd_argAngle (s : State) : (s.dropCmd).argAngle = s.argAngle := rfl
@[simp] theorem State.dropCmd_argPwm (s : State) : (s.dropCmd).argPwm = s.argPwm := rfl
@[simp] theorem State.dropCmd_argCb (s : State) : (s.dropCmd).argCb = s.argCb := rfl
@[simp] theorem State.dropCmd_crcAcc (s : State) : (s.dropCmd).crcAcc = s.crcAcc := rfl
@[simp] theorem State.dropCmd_buf (s : State) : (s.dropCmd).buf = s.buf := rfl
@[simp] theorem State.dropCmd_replay (s : State) : (s.dropCmd).replay = s.replay := rfl
@[simp] theorem State.dropCmd_frame (s : State) : (s.dropCmd).frame = s.frame := rfl
@[simp] theorem State.dropCmd_frameValid (s : State) : (s.dropCmd).frameValid = s.frameValid := rfl
@[simp] theorem State.dropCmd_busy (s : State) : (s.dropCmd).busy = s.busy := rfl
@[simp] theorem State.dropCmd_result (s : State) : (s.dropCmd).result = s.result := rfl
@[simp] theorem State.dropCmd_cmdOvr (s : State) : (s.dropCmd).cmdOvr = true := rfl
@[simp] theorem State.dropCmd_src (s : State) : (s.dropCmd).src = s.src := rfl
@[simp] theorem State.dropCmd_srcPresent (s : State) : (s.dropCmd).srcPresent = s.srcPresent := rfl
@[simp] theorem State.dropCmd_events (s : State) : (s.dropCmd).events = s.events := rfl
@[simp] theorem State.dropCmd_reads (s : State) : (s.dropCmd).reads = s.reads := rfl
@[simp] theorem State.dropCmd_schedule (s : State) : (s.dropCmd).schedule = s.schedule := rfl
@[simp] theorem State.dropCmd_recurring (s : State) : (s.dropCmd).recurring = s.recurring := rfl

@[simp] theorem State.storeSettings_cfg (x : Settings) (s : State) : (s.storeSettings x).cfg = s.cfg := rfl
@[simp] theorem State.storeSettings_settings (x : Settings) (s : State) : (s.storeSettings x).settings = x := rfl
@[simp] theorem State.storeSettings_cbValid (x : Settings) (s : State) : (s.storeSettings x).cbValid = s.cbValid := rfl
@[simp] theorem State.storeSettings_cbHandle (x : Settings) (s : State) : (s.storeSettings x).cbHandle = s.cbHandle := rfl
@[simp] theorem State.storeSettings_argSpeed (x : Settings) (s : State) : (s.storeSettings x).argSpeed = s.argSpeed := rfl
@[simp] theorem State.storeSettings_argAngle (x : Settings) (s : State) : (s.storeSettings x).argAngle = s.argAngle := rfl
@[simp] theorem State.storeSettings_argPwm (x : Settings) (s : State) : (s.storeSettings x).argPwm = s.argPwm := rfl
@[simp] theorem State.storeSettings_argCb (x : Settings) (s : State) : (s.storeSettings x).argCb = s.argCb := rfl
@[simp] theorem State.storeSettings_crcAcc (x : Settings) (s : State) : (s.storeSettings x).crcAcc = s.crcAcc := rfl
@[simp] theorem State.storeSettings_buf (x : Settings) (s : State) : (s.storeSettings x).buf = s.buf := rfl
@[simp] theorem State.storeSettings_replay (x : Settings) (s : State) : (s.storeSettings x).replay = s.replay := rfl
@[simp] theorem State.storeSettings_frame (x : Settings) (s : State) : (s.storeSettings x).frame = s.frame := rfl
@[simp] theorem State.storeSettings_frameValid (x : Settings) (s : State) : (s.storeSettings x).frameValid = s.frameValid := rfl
@[simp] theorem State.storeSettings_busy (x : Settings) (s : State) : (s.storeSettings x).busy = s.busy := rfl
@[simp] theorem State.storeSettings_result (x : Settings) (s : State) : (s.storeSettings x).result = s.result := rfl
@[simp] theorem State.storeSettings_cmdOvr (x : Settings) (s : State) : (s.storeSettings x).cmdOvr = s.cmdOvr := rfl
@[simp] theorem State.storeSettings_src (x : Settings) (s : State) : (s.storeSettings x).src = s.src := rfl
@[simp] theorem State.storeSettings_srcPresent (x : Settings) (s : State) : (s.storeSettings x).srcPresent = s.srcPresent := rfl
@[simp] theorem State.storeSettings_events (x : Settings) (s : State) : (s.storeSettings x).events = s.events := rfl
@[simp] theorem State.storeSettings_reads (x : Settings) (s : State) : (s.storeSettings x).reads = s.reads := rfl
@[simp] theorem State.storeSettings_schedule (x : Settings) (s : State) : (s.storeSettings x).schedule = s.schedule := rfl
@[simp] theorem State.storeSettings_recurring (x : Settings) (s : State) : (s.storeSettings x).recurring = s.recurring := rfl

@[simp] theorem State.storeHandle_cfg (h : Word) (s : State) : (s.storeHandle h).cfg = s.cfg := rfl
@[simp] theorem State.storeHandle_settings (h : Word) (s : State) : (s.storeHandle h).settings = s.settings := rfl
@[simp] theorem State.storeHandle_cbValid (h : Word) (s : State) : (s.storeHandle h).cbValid = true := rfl
@[simp] theorem State.storeHandle_cbHandle (h : Word) (s : State) : (s.storeHandle h).cbHandle = h := rfl
@[simp] theorem State.storeHandle_argSpeed (h : Word) (s : State) : (s.storeHandle h).argSpeed = s.argSpeed := rfl
@[simp] theorem State.storeHandle_argAngle (h : Word) (s : State) : (s.storeHandle h).argAngle = s.argAngle := rfl
@[simp] theorem State.storeHandle_argPwm (h : Word) (s : State) : (s.storeHandle h).argPwm = s.argPwm := rfl
@[simp] theorem State.storeHandle_argCb (h : Word) (s : State) : (s.storeHandle h).argCb = s.argCb := rfl
@[simp] theorem State.storeHandle_crcAcc (h : Word) (s : State) : (s.storeHandle h).crcAcc = s.crcAcc := rfl
@[simp] theorem State.storeHandle_buf (h : Word) (s : State) : (s.storeHandle h).buf = s.buf := rfl
@[simp] theorem State.storeHandle_replay (h : Word) (s : State) : (s.storeHandle h).replay = s.replay := rfl
@[simp] theorem State.storeHandle_frame (h : Word) (s : State) : (s.storeHandle h).frame = s.frame := rfl
@[simp] theorem State.storeHandle_frameValid (h : Word) (s : State) : (s.storeHandle h).frameValid = s.frameValid := rfl
@[simp] theorem State.storeHandle_busy (h : Word) (s : State) : (s.storeHandle h).busy = s.busy := rfl
@[simp] theorem State.storeHandle_result (h : Word) (s : State) : (s.storeHandle h).result = s.result := rfl
@[simp] theorem State.storeHandle_cmdOvr (h : Word) (s : State) : (s.storeHandle h).cmdOvr = s.cmdOvr := rfl
@[simp] theorem State.storeHandle_src (h : Word) (s : State) : (s.storeHandle h).src = s.src := rfl
@[simp] theorem State.storeHandle_srcPresent (h : Word) (s : State) : (s.storeHandle h).srcPresent = s.srcPresent := rfl
@[simp] theorem State.storeHandle_events (h : Word) (s : State) : (s.storeHandle h).events = s.events := rfl
@[simp] theorem State.storeHandle_reads (h : Word) (s : State) : (s.storeHandle h).reads = s.reads := rfl
@[simp] theorem State.storeHandle_schedule (h : Word) (s : State) : (s.storeHandle h).schedule = s.schedule := rfl
@[simp] theorem State.storeHandle_recurring (h : Word) (s : State) : (s.storeHandle h).recurring = s.recurring := rfl

@[simp] theorem State.emit_cfg (e : PwmEvent) (s : State) : (s.emit e).cfg = s.cfg := rfl
@[simp] theorem State.emit_settings (e : PwmEvent) (s : State) : (s.emit e).settings = s.settings := rfl
@[simp] theorem State.emit_cbValid (e : PwmEvent) (s : State) : (s.emit e).cbValid = s.cbValid := rfl
@[simp] theorem State.emit_cbHandle (e : PwmEvent) (s : State) : (s.emit e).cbHandle = s.cbHandle := rfl
@[simp] theorem State.emit_argSpeed (e : PwmEvent) (s : State) : (s.emit e).argSpeed = s.argSpeed := rfl
@[simp] theorem State.emit_argAngle (e : PwmEvent) (s : State) : (s.emit e).argAngle = s.argAngle := rfl
@[simp] theorem State.emit_argPwm (e : PwmEvent) (s : State) : (s.emit e).argPwm = s.argPwm := rfl
@[simp] theorem State.emit_argCb (e : PwmEvent) (s : State) : (s.emit e).argCb = s.argCb := rfl
@[simp] theorem State.emit_crcAcc (e : PwmEvent) (s : State) : (s.emit e).crcAcc = s.crcAcc := rfl
@[simp] theorem State.emit_buf (e : PwmEvent) (s : State) : (s.emit e).buf = s.buf := rfl
@[simp] theorem State.emit_replay (e : PwmEvent) (s : State) : (s.emit e).replay = s.replay := rfl
@[simp] theorem State.emit_frame (e : PwmEvent) (s : State) : (s.emit e).frame = s.frame := rfl
@[simp] theorem State.emit_frameValid (e : PwmEvent) (s : State) : (s.emit e).frameValid = s.frameValid := rfl
@[simp] theorem State.emit_busy (e : PwmEvent) (s : State) : (s.emit e).busy = s.busy := rfl
@[simp] theorem State.emit_result (e : PwmEvent) (s : State) : (s.emit e).result = s.result := rfl
@[simp] theorem State.emit_cmdOvr (e : PwmEvent) (s : State) : (s.emit e).cmdOvr = s.cmdOvr := rfl
@[simp] theorem State.emit_src (e : PwmEvent) (s : State) : (s.emit e).src = s.src := rfl
@[simp] theorem State.emit_srcPresent (e : PwmEvent) (s : State) : (s.emit e).srcPresent = s.srcPresent := rfl
@[simp] theorem State.emit_events (e : PwmEvent) (s : State) : (s.emit e).events = s.events ++ [e] := rfl
@[simp] theorem State.emit_reads (e : PwmEvent) (s : State) : (s.emit e).reads = s.reads := rfl
@[simp] theorem State.emit_schedule (e : PwmEvent) (s : State) : (s.emit e).schedule = s.schedule := rfl
@[simp] theorem State.emit_recurring (e : PwmEvent) (s : State) : (s.emit e).recurring = s.recurring := rfl

@[simp] theorem State.srcAppend_cfg (bs : List Byte) (s : State) : (s.srcAppend bs).cfg = s.cfg := rfl
@[simp] theorem State.srcAppend_settings (bs : List Byte) (s : State) : (s.srcAppend bs).settings = s.settings := rfl
@[simp] theorem State.srcAppend_cbValid (bs : List Byte) (s : State) : (s.srcAppend bs).cbValid = s.cbValid := rfl
@[simp] theorem State.srcAppend_cbHandle (bs : List Byte) (s : State) : (s.srcAppend bs).cbHandle = s.cbHandle := rfl
@[simp] theorem State.srcAppend_argSpeed (bs : List Byte) (s : State) : (s.srcAppend bs).argSpeed = s.argSpeed := rfl
@[simp] theorem State.srcAppend_argAngle (bs : List Byte) (s : State) : (s.srcAppend bs).argAngle = s.argAngle := rfl
@[simp] theorem State.srcAppend_argPwm (bs : List Byte) (s : State) : (s.srcAppend bs).argPwm = s.argPwm := rfl
@[simp] theorem State.srcAppend_argCb (bs : List Byte) (s : State) : (s.srcAppend bs).argCb = s.argCb := rfl
@[simp] theorem State.srcAppend_crcAcc (bs : List Byte) (s : State) : (s.srcAppend bs).crcAcc = s.crcAcc := rfl
@[simp] theorem State.srcAppend_buf (bs : List Byte) (s : State) : (s.srcAppend bs).buf = s.buf := rfl
@[simp] theorem State.srcAppend_replay (bs : List Byte) (s : State) : (s.srcAppend bs).replay = s.replay := rfl
@[simp] theorem State.srcAppend_frame (bs : List Byte) (s : State) : (s.srcAppend bs).frame = s.frame := rfl
@[simp] theorem State.srcAppend_frameValid (bs : List Byte) (s : State) : (s.srcAppend bs).frameValid = s.frameValid := rfl
@[simp] theorem State.srcAppend_busy (bs : List Byte) (s : State) : (s.srcAppend bs).busy = s.busy := rfl
@[simp] theorem State.srcAppend_result (bs : List Byte) (s : State) : (s.srcAppend bs).result = s.result := rfl
@[simp] theorem State.srcAppend_cmdOvr (bs : List Byte) (s : State) : (s.srcAppend bs).cmdOvr = s.cmdOvr := rfl
@[simp] theorem State.srcAppend_src (bs : List Byte) (s : State) : (s.srcAppend bs).src = s.src ++ bs := rfl
@[simp] theorem State.srcAppend_srcPresent (bs : List Byte) (s : State) : (s.srcAppend bs).srcPresent = s.srcPresent := rfl
@[simp] theorem State.srcAppend_events (bs : List Byte) (s : State) : (s.srcAppend bs).events = s.events := rfl
@[simp] theorem State.srcAppend_reads (bs : List Byte) (s : State) : (s.srcAppend bs).reads = s.reads := rfl
@[simp] theorem State.srcAppend_schedule (bs : List Byte) (s : State) : (s.srcAppend bs).schedule = s.schedule := rfl
@[simp] theorem State.srcAppend_recurring (bs : List Byte) (s : State) : (s.srcAppend bs).recurring = s.recurring := rfl

@[simp] theorem State.capture_cfg (b : Byte) (s : State) : (s.capture b).cfg = s.cfg := rfl
@[simp] theorem State.capture_settings (b : Byte) (s : State) : (s.capture b).settings = s.settings := rfl
@[simp] theorem State.capture_cbValid (b : Byte) (s : State) : (s.capture b).cbValid = s.cbValid := rfl
@[simp] theorem State.capture_cbHandle (b : Byte) (s : State) : (s.capture b).cbHandle = s.cbHandle := rfl
@[simp] theorem State.capture_argSpeed (b : Byte) (s : State) : (s.capture b).argSpeed = s.argSpeed := rfl
@[simp] theorem State.capture_argAngle (b : Byte) (s : State) : (s.capture b).argAngle = s.argAngle := rfl
@[simp] theorem State.capture_argPwm (b : Byte) (s : State) : (s.capture b).argPwm = s.argPwm := rfl
@[simp] theorem State.capture_argCb (b : Byte) (s : State) : (s.capture b).argCb = s.argCb := rfl
@[simp] theorem State.capture_crcAcc (b : Byte) (s : State) : (s.capture b).crcAcc = s.crcAcc := rfl
@[simp] theorem State.capture_buf (b : Byte) (s : State) : (s.capture b).buf = s.buf ++ [b] := rfl
@[simp] theorem State.capture_replay (b : Byte) (s : State) : (s.capture b).replay = s.replay := rfl
@[simp] theorem State.capture_frame (b : Byte) (s : State) : (s.capture b).frame = s.frame := rfl
@[simp] theorem State.capture_frameValid (b : Byte) (s : State) : (s.capture b).frameValid = s.frameValid := rfl
@[simp] theorem State.capture_busy (b : Byte) (s : State) : (s.capture b).busy = s.busy := rfl
@[simp] theorem State.capture_result (b : Byte) (s : State) : (s.capture b).result = s.result := rfl
@[simp] theorem State.capture_cmdOvr (b : Byte) (s : State) : (s.capture b).cmdOvr = s.cmdOvr := rfl
@[simp] theorem State.capture_src (b : Byte) (s : State) : (s.capture b).src = s.src := rfl
@[simp] theorem State.capture_srcPresent (b : Byte) (s : State) : (s.capture b).srcPresent = s.srcPresent := rfl
@[simp] theorem State.capture_events (b : Byte) (s : State) : (s.capture b).events = s.events := rfl
@[simp] theorem State.capture_reads (b : Byte) (s : State) : (s.capture b).reads = s.reads := rfl
@[simp] theorem State.capture_schedule (b : Byte) (s : State) : (s.capture b).schedule = s.schedule := rfl
@[simp] theorem State.capture_recurring (b : Byte) (s : State) : (s.capture b).recurring = s.recurring := rfl

@[simp] theorem State.reject_cfg (b : Byte) (s : State) : (s.reject b).cfg = s.cfg := rfl
@[simp] theorem State.reject_settings (b : Byte) (s : State) : (s.reject b).settings = s.settings := rfl
@[simp] theorem State.reject_cbValid (b : Byte) (s : State) : (s.reject b).cbValid = s.cbValid := rfl
@[simp] theorem State.reject_cbHandle (b : Byte) (s : State) : (s.reject b).cbHandle = s.cbHandle := rfl
@[simp] theorem State.reject_argSpeed (b : Byte) (s : State) : (s.reject b).argSpeed = s.argSpeed := rfl
@[simp] theorem State.reject_argAngle (b : Byte) (s : State) : (s.reject b).argAngle = s.argAngle := rfl
@[simp] theorem State.reject_argPwm (b : Byte) (s : State) : (s.reject b).argPwm = s.argPwm := rfl
@[simp] theorem State.reject_argCb (b : Byte) (s : State) : (s.reject b).argCb = s.argCb := rfl
@[simp] theorem State.reject_crcAcc (b : Byte) (s : State) : (s.reject b).crcAcc = s.crcAcc := rfl
@[simp] theorem State.reject_buf (b : Byte) (s : State) : (s.reject b).buf = [] := rfl
@[simp] theorem State.reject_replay (b : Byte) (s : State) : (s.reject b).replay = s.buf.tail ++ [b] ++ s.replay := rfl
@[simp] theorem State.reject_frame (b : Byte) (s : State) : (s.reject b).frame = s.frame := rfl
@[simp] theorem State.reject_frameValid (b : Byte) (s : State) : (s.reject b).frameValid = s.frameValid := rfl
@[simp] theorem State.reject_busy (b : Byte) (s : State) : (s.reject b).busy = s.busy := rfl
@[simp] theorem State.reject_result (b : Byte) (s : State) : (s.reject b).result = s.result := rfl
@[simp] theorem State.reject_cmdOvr (b : Byte) (s : State) : (s.reject b).cmdOvr = s.cmdOvr := rfl
@[simp] theorem State.reject_src (b : Byte) (s : State) : (s.reject b).src = s.src := rfl
@[simp] theorem State.reject_srcPresent (b : Byte) (s : State) : (s.reject b).srcPresent = s.srcPresent := rfl
@[simp] theorem State.reject_events (b : Byte) (s : State) : (s.reject b).events = s.events := rfl
@[simp] theorem State.reject_reads (b : Byte) (s : State) : (s.reject b).reads = s.reads := rfl
@[simp] theorem State.reject_schedule (b : Byte) (s : State) : (s.reject b).schedule = s.schedule := rfl
@[simp] theorem State.reject_recurring (b : Byte) (s : State) : (s.reject b).recurring = s.recurring := rfl

@[simp] theorem State.deliver_cfg (f : Frame) (s : State) : (s.deliver f).cfg = s.cfg := rfl
@[simp] theorem State.deliver_settings (f : Frame) (s : State) : (s.deliver f).settings = s.settings := rfl
@[simp] theorem State.deliver_cbValid (f : Frame) (s : State) : (s.deliver f).cbValid = s.cbValid := rfl
@[simp] theorem State.deliver_cbHandle (f : Frame) (s : State) : (s.deliver f).cbHandle = s.cbHandle := rfl
@[simp] theorem State.deliver_argSpeed (f : Frame) (s : State) : (s.deliver f).argSpeed = s.argSpeed := rfl
@[simp] theorem State.deliver_argAngle (f : Frame) (s : State) : (s.deliver f).argAngle = s.argAngle := rfl
@[simp] theorem State.deliver_argPwm (f : Frame) (s : State) : (s.deliver f).argPwm = s.argPwm := rfl
@[simp] theorem State.deliver_argCb (f : Frame) (s : State) : (s.deliver f).argCb = s.argCb := rfl
@[simp] theorem State.deliver_crcAcc (f : Frame) (s : State) : (s.deliver f).crcAcc = s.crcAcc := rfl
@[simp] theorem State.deliver_buf (f : Frame) (s : State) : (s.deliver f).buf = [] := rfl
@[simp] theorem State.deliver_replay (f : Frame) (s : State) : (s.deliver f).replay = s.replay := rfl
@[simp] theorem State.deliver_frame (f : Frame) (s : State) : (s.deliver f).frame = f := rfl
@[simp] theorem State.deliver_frameValid (f : Frame) (s : State) : (s.deliver f).frameValid = true := rfl
@[simp] theorem State.deliver_busy (f : Frame) (s : State) : (s.deliver f).busy = s.busy := rfl
@[simp] theorem State.deliver_result (f : Frame) (s : State) : (s.deliver f).result = s.result := rfl
@[simp] theorem State.deliver_cmdOvr (f : Frame) (s : State) : (s.deliver f).cmdOvr = s.cmdOvr := rfl
@[simp] theorem State.deliver_src (f : Frame) (s : State) : (s.deliver f).src = s.src := rfl
@[simp] theorem State.deliver_srcPresent (f : Frame) (s : State) : (s.deliver f).srcPresent = s.srcPresent := rfl
@[simp] theorem State.deliver_events (f : Frame) (s : State) : (s.deliver f).events = s.events := rfl
@[simp] theorem State.deliver_reads (f : Frame) (s : State) : (s.deliver f).reads = s.reads := rfl
@[simp] theorem State.deliver_schedule (f : Frame) (s : State) : (s.deliver f).schedule = s.schedule := rfl
@[simp] theorem State.deliver_recurring (f : Frame) (s : State) : (s.deliver f).recurring = s.recurring := rfl

@[simp] theorem State.recordRead_cfg (off : Nat) (s : State) : (s.recordRead off).cfg = s.cfg := rfl
@[simp] theorem State.recordRead_settings (off : Nat) (s : State) : (s.recordRead off).settings = s.settings := rfl
@[simp] theorem State.recordRead_cbValid (off : Nat) (s : State) : (s.recordRead off).cbValid = s.cbValid := rfl
@[simp] theorem State.recordRead_cbHandle (off : Nat) (s : State) : (s.recordRead off).cbHandle = s.cbHandle := rfl
@[simp] theorem State.recordRead_argSpeed (off : Nat) (s : State) : (s.recordRead off).argSpeed = s.argSpeed := rfl
@[simp] theorem State.recordRead_argAngle (off : Nat) (s : State) : (s.recordRead off).argAngle = s.argAngle := rfl
@[simp] theorem State.recordRead_argPwm (off : Nat) (s : State) : (s.recordRead off).argPwm = s.argPwm := rfl
@[simp] theorem State.recordRead_argCb (off : Nat) (s : State) : (s.recordRead off).argCb = s.argCb := rfl
@[simp] theorem State.recordRead_crcAcc (off : Nat) (s : State) : (s.recordRead off).crcAcc = s.crcAcc := rfl
@[simp] theorem State.recordRead_buf (off : Nat) (s : State) : (s.recordRead off).buf = s.buf := rfl
@[simp] theorem State.recordRead_replay (off : Nat) (s : State) : (s.recordRead off).replay = s.replay := rfl
@[simp] theorem State.recordRead_frame (off : Nat) (s : State) : (s.recordRead off).frame = s.frame := rfl
@[simp] theorem State.recordRead_frameValid (off : Nat) (s : State) : (s.recordRead off).frameValid = s.frameValid := rfl
@[simp] theorem State.recordRead_busy (off : Nat) (s : State) : (s.recordRead off).busy = s.busy := rfl
@[simp] theorem State.recordRead_result (off : Nat) (s : State) : (s.recordRead off).result = s.result := rfl
@[simp] theorem State.recordRead_cmdOvr (off : Nat) (s : State) : (s.recordRead off).cmdOvr = s.cmdOvr := rfl
@[simp] theorem State.recordRead_src (off : Nat) (s : State) : (s.recordRead off).src = s.src := rfl
@[simp] theorem State.recordRead_srcPresent (off : Nat) (s : State) : (s.recordRead off).srcPresent = s.srcPresent := rfl
@[simp] theorem State.recordRead_events (off : Nat) (s : State) : (s.recordRead off).events = s.events := rfl
@[simp] theorem State.recordRead_reads (off : Nat) (s : State) : (s.recordRead off).reads = s.reads ++ [⟨off, regRead off s⟩] := rfl
@[simp] theorem State.recordRead_schedule (off : Nat) (s : State) : (s.recordRead off).schedule = s.schedule := rfl
@[simp] theorem State.recordRead_recurring (off : Nat) (s : State) : (s.recordRead off).recurring = s.recurring := rfl

@[simp] theorem State.endTurn_cfg (s : State) : s.endTurn.cfg = s.cfg := rfl
@[simp] theorem State.endTurn_settings (s : State) : s.endTurn.settings = s.settings := rfl
@[simp] theorem State.endTurn_cbValid (s : State) : s.endTurn.cbValid = s.cbValid := rfl
@[simp] theorem State.endTurn_cbHandle (s : State) : s.endTurn.cbHandle = s.cbHandle := rfl
@[simp] theorem State.endTurn_argSpeed (s : State) : s.endTurn.argSpeed = s.argSpeed := rfl
@[simp] theorem State.endTurn_argAngle (s : State) : s.endTurn.argAngle = s.argAngle := rfl
@[simp] theorem State.endTurn_argPwm (s : State) : s.endTurn.argPwm = s.argPwm := rfl
@[simp] theorem State.endTurn_argCb (s : State) : s.endTurn.argCb = s.argCb := rfl
@[simp] theorem State.endTurn_crcAcc (s : State) : s.endTurn.crcAcc = s.crcAcc := rfl
@[simp] theorem State.endTurn_buf (s : State) : s.endTurn.buf = s.buf := rfl
@[simp] theorem State.endTurn_replay (s : State) : s.endTurn.replay = s.replay := rfl
@[simp] theorem State.endTurn_frame (s : State) : s.endTurn.frame = s.frame := rfl
@[simp] theorem State.endTurn_frameValid (s : State) : s.endTurn.frameValid = s.frameValid := rfl
@[simp] theorem State.endTurn_busy (s : State) : s.endTurn.busy = s.busy := rfl
@[simp] theorem State.endTurn_result (s : State) : s.endTurn.result = s.result := rfl
@[simp] theorem State.endTurn_cmdOvr (s : State) : s.endTurn.cmdOvr = s.cmdOvr := rfl
@[simp] theorem State.endTurn_src (s : State) : s.endTurn.src = s.src := rfl
@[simp] theorem State.endTurn_srcPresent (s : State) : s.endTurn.srcPresent = s.srcPresent := rfl
@[simp] theorem State.endTurn_events (s : State) : s.endTurn.events = s.events := rfl
@[simp] theorem State.endTurn_reads (s : State) : s.endTurn.reads = s.reads := rfl
@[simp] theorem State.endTurn_schedule (s : State) : s.endTurn.schedule = s.pending.tail := rfl
@[simp] theorem State.endTurn_recurring (s : State) : s.endTurn.recurring = s.recurring := rfl

@[simp] theorem State.hardReset_cfg (s : State) : s.hardReset.cfg = State.reset.cfg := rfl
@[simp] theorem State.hardReset_settings (s : State) : s.hardReset.settings = State.reset.settings := rfl
@[simp] theorem State.hardReset_cbValid (s : State) : s.hardReset.cbValid = State.reset.cbValid := rfl
@[simp] theorem State.hardReset_cbHandle (s : State) : s.hardReset.cbHandle = State.reset.cbHandle := rfl
@[simp] theorem State.hardReset_argSpeed (s : State) : s.hardReset.argSpeed = State.reset.argSpeed := rfl
@[simp] theorem State.hardReset_argAngle (s : State) : s.hardReset.argAngle = State.reset.argAngle := rfl
@[simp] theorem State.hardReset_argPwm (s : State) : s.hardReset.argPwm = State.reset.argPwm := rfl
@[simp] theorem State.hardReset_argCb (s : State) : s.hardReset.argCb = State.reset.argCb := rfl
@[simp] theorem State.hardReset_crcAcc (s : State) : s.hardReset.crcAcc = State.reset.crcAcc := rfl
@[simp] theorem State.hardReset_buf (s : State) : s.hardReset.buf = State.reset.buf := rfl
@[simp] theorem State.hardReset_replay (s : State) : s.hardReset.replay = State.reset.replay := rfl
@[simp] theorem State.hardReset_frame (s : State) : s.hardReset.frame = State.reset.frame := rfl
@[simp] theorem State.hardReset_frameValid (s : State) : s.hardReset.frameValid = State.reset.frameValid := rfl
@[simp] theorem State.hardReset_busy (s : State) : s.hardReset.busy = State.reset.busy := rfl
@[simp] theorem State.hardReset_result (s : State) : s.hardReset.result = State.reset.result := rfl
@[simp] theorem State.hardReset_cmdOvr (s : State) : s.hardReset.cmdOvr = State.reset.cmdOvr := rfl
@[simp] theorem State.hardReset_src (s : State) : s.hardReset.src = s.src := rfl
@[simp] theorem State.hardReset_srcPresent (s : State) : s.hardReset.srcPresent = s.srcPresent := rfl
@[simp] theorem State.hardReset_events (s : State) : s.hardReset.events = s.events := rfl
@[simp] theorem State.hardReset_reads (s : State) : s.hardReset.reads = s.reads := rfl
@[simp] theorem State.hardReset_schedule (s : State) : s.hardReset.schedule = s.schedule := rfl
@[simp] theorem State.hardReset_recurring (s : State) : s.hardReset.recurring = s.recurring := rfl

@[simp] theorem State.notify_events (P : Config.Params) (s : State) :
    (s.notify P).events = if s.cbValid then s.events ++ [pwmEvent P s] else s.events := by
  unfold State.notify; split <;> rfl
@[simp] theorem State.notify_cfg (P : Config.Params) (s : State) : (s.notify P).cfg = s.cfg := by
  unfold State.notify; split <;> rfl
@[simp] theorem State.notify_settings (P : Config.Params) (s : State) : (s.notify P).settings = s.settings := by
  unfold State.notify; split <;> rfl
@[simp] theorem State.notify_cbValid (P : Config.Params) (s : State) : (s.notify P).cbValid = s.cbValid := by
  unfold State.notify; split <;> rfl
@[simp] theorem State.notify_cbHandle (P : Config.Params) (s : State) : (s.notify P).cbHandle = s.cbHandle := by
  unfold State.notify; split <;> rfl
@[simp] theorem State.notify_argSpeed (P : Config.Params) (s : State) : (s.notify P).argSpeed = s.argSpeed := by
  unfold State.notify; split <;> rfl
@[simp] theorem State.notify_argAngle (P : Config.Params) (s : State) : (s.notify P).argAngle = s.argAngle := by
  unfold State.notify; split <;> rfl
@[simp] theorem State.notify_argPwm (P : Config.Params) (s : State) : (s.notify P).argPwm = s.argPwm := by
  unfold State.notify; split <;> rfl
@[simp] theorem State.notify_argCb (P : Config.Params) (s : State) : (s.notify P).argCb = s.argCb := by
  unfold State.notify; split <;> rfl
@[simp] theorem State.notify_crcAcc (P : Config.Params) (s : State) : (s.notify P).crcAcc = s.crcAcc := by
  unfold State.notify; split <;> rfl
@[simp] theorem State.notify_buf (P : Config.Params) (s : State) : (s.notify P).buf = s.buf := by
  unfold State.notify; split <;> rfl
@[simp] theorem State.notify_replay (P : Config.Params) (s : State) : (s.notify P).replay = s.replay := by
  unfold State.notify; split <;> rfl
@[simp] theorem State.notify_frame (P : Config.Params) (s : State) : (s.notify P).frame = s.frame := by
  unfold State.notify; split <;> rfl
@[simp] theorem State.notify_frameValid (P : Config.Params) (s : State) : (s.notify P).frameValid = s.frameValid := by
  unfold State.notify; split <;> rfl
@[simp] theorem State.notify_busy (P : Config.Params) (s : State) : (s.notify P).busy = s.busy := by
  unfold State.notify; split <;> rfl
@[simp] theorem State.notify_result (P : Config.Params) (s : State) : (s.notify P).result = s.result := by
  unfold State.notify; split <;> rfl
@[simp] theorem State.notify_cmdOvr (P : Config.Params) (s : State) : (s.notify P).cmdOvr = s.cmdOvr := by
  unfold State.notify; split <;> rfl
@[simp] theorem State.notify_src (P : Config.Params) (s : State) : (s.notify P).src = s.src := by
  unfold State.notify; split <;> rfl
@[simp] theorem State.notify_srcPresent (P : Config.Params) (s : State) : (s.notify P).srcPresent = s.srcPresent := by
  unfold State.notify; split <;> rfl
@[simp] theorem State.notify_reads (P : Config.Params) (s : State) : (s.notify P).reads = s.reads := by
  unfold State.notify; split <;> rfl
@[simp] theorem State.notify_schedule (P : Config.Params) (s : State) : (s.notify P).schedule = s.schedule := by
  unfold State.notify; split <;> rfl
@[simp] theorem State.notify_recurring (P : Config.Params) (s : State) : (s.notify P).recurring = s.recurring := by
  unfold State.notify; split <;> rfl

/-- Scheduled turns come first. -/
theorem State.pending_of_cons {s : State} {a : Action} {rest : List Action} (h : s.schedule = a :: rest) :
    s.pending = a :: rest := by simp [State.pending, h]

/-- With the schedule used up the recurring turns come. -/
theorem State.pending_of_nil {s : State} (h : s.schedule = []) : s.pending = s.recurring := by
  simp [State.pending, h]

end Sys2Proof.Machine
end

