-- ==== Sys2Proof/Laws/Ops.lean ====
section
/-! SUPPORT. What each shared operation can do, said once: the gate of CMD, the stream, the commands' common form. -/

namespace Sys2Proof.Machine

theorem accept_idle (run : State → State) (s : State) (h : s.busy = false) : s.accept run = .next (run s) := by
  simp [State.accept, h]

theorem accept_busy (run : State → State) (s : State) (h : s.busy = true) : s.accept run = .next s.dropCmd := by
  simp [State.accept, h]

/-- A CMD write always answers a next state: the dropped one while busy, the command's effect otherwise. -/
theorem accept_next {run : State → State} {s t : State} (h : s.accept run = .next t) :
    (s.busy = true ∧ t = s.dropCmd) ∨ (s.busy = false ∧ t = run s) := by
  cases hb : s.busy
  · exact .inr ⟨rfl, by simpa [accept_idle _ _ hb] using h.symm⟩
  · exact .inl ⟨rfl, by simpa [accept_busy _ _ hb] using h.symm⟩

theorem notify_of_cbValid (P : Config.Params) (s : State) (h : s.cbValid = true) :
    s.notify P = s.emit (pwmEvent P s) := by simp [State.notify, h]

theorem notify_of_no_callback (P : Config.Params) (s : State) (h : s.cbValid = false) : s.notify P = s := by
  simp [State.notify, h]

/-- `notify` appends the event of the state, or nothing. -/
theorem notify_eq (P : Config.Params) (s : State) :
    s.notify P = { s with events := s.events ++ if s.cbValid then [pwmEvent P s] else [] } := by
  obtain ⟨⟩ := s
  rename_i v _ _ _ _ _ _ _ _ _ _ _ _ _ _ _ _ _ _ _
  cases v <;> simp [State.notify, State.emit]

/-- While idle `finish` writes nothing but `result`. -/
theorem finish_idle (c : ResultCode) (s : State) (h : s.busy = false) : s.finish c = { s with result := c } := by
  simp [State.finish, h]

/-- `take` finds nothing exactly when the replay queue and the byte source are empty. -/
theorem take_eq_none {s : State} : s.take = none ↔ s.replay = [] ∧ s.src = [] := by
  unfold State.take State.srcTake
  cases s.replay <;> cases s.src <;> simp

/-- `take` gives the head of the replay queue, or of the byte source when the queue is empty, and removes it. -/
theorem take_eq_some {s s' : State} {b : Byte} (h : s.take = some (b, s')) :
    (∃ rest, s.replay = b :: rest ∧ s' = { s with replay := rest }) ∨
      (s.replay = [] ∧ ∃ rest, s.src = b :: rest ∧ s' = { s with src := rest }) := by
  unfold State.take State.srcTake at h
  split at h
  · rename_i hr
    split at h
    · cases h
    · rename_i hs; cases h; exact .inr ⟨hr, _, hs, rfl⟩
  · rename_i hr; cases h; exact .inl ⟨_, hr, rfl⟩

theorem take_replay {s : State} {b : Byte} {rest : List Byte} (h : s.replay = b :: rest) :
    s.take = some (b, { s with replay := rest }) := by simp [State.take, h]

theorem take_src {s : State} {b : Byte} {rest : List Byte} (hr : s.replay = []) (h : s.src = b :: rest) :
    s.take = some (b, { s with src := rest }) := by simp [State.take, State.srcTake, hr, h]

/-- The effect of each command once accepted. -/
def commandEffect : Instr → State → State
  | .initDefaults => initDefaults Config.params
  | .configure a p => configure Config.params a p
  | .registerCb => registerCb
  | .readFrame => startReadFrame
  | .crcClear => crcClear
  | .crcFeed b => crcFeed Config.params b

/-- Every command is the gate of CMD around its effect. -/
theorem exec_eq_accept (i : Instr) (s : State) : exec i s = s.accept (commandEffect i) := by
  cases i <;> rfl

theorem initDefaults_unconfigured (P : Config.Params) (s : State) (h : s.cfg = .unconfigured) :
    initDefaults P s =
      (({ s with cfg := .configured }.storeSettings (defaultSettings P)).notify P).finish .done := by
  simp [initDefaults, h]

theorem initDefaults_configured (P : Config.Params) (s : State) (h : s.cfg = .configured) :
    initDefaults P s = s.finish .errReinit := by simp [initDefaults, h]

theorem configure_configured (P : Config.Params) (a p : Bool) (s : State) (h : s.cfg = .configured) :
    configure P a p s = ((s.storeSettings (configureOperands a p s)).notify P).finish .done := by
  simp [configure, h]

theorem configure_unconfigured (P : Config.Params) (a p : Bool) (s : State) (h : s.cfg = .unconfigured) :
    configure P a p s = s.finish .errNotInit := by simp [configure, h]

/-- READ_FRAME's acceptance: an error, or the command starts. -/
theorem startReadFrame_cases (s : State) :
    (s.cfg = .unconfigured ∧ startReadFrame s = s.finish .errNotInit) ∨
      (s.cfg = .configured ∧ s.srcPresent = false ∧ startReadFrame s = s.finish .errNoSource) ∨
      (s.cfg = .configured ∧ s.srcPresent = true ∧ startReadFrame s = { s with busy := true }) := by
  unfold startReadFrame
  cases s.cfg <;> cases s.srcPresent <;> simp

@[simp] theorem le16_toNat (lo hi : Byte) : (le16 lo hi).toNat = lo.toNat + 256 * hi.toNat := by
  have : le16 lo hi = hi ++ lo := by
    apply BitVec.eq_of_getLsbD_eq
    intro i hi
    rw [BitVec.getLsbD_append]
    by_cases h : i < 8
    · simp [le16, h, hi]
    · simp [le16, h, hi, BitVec.getLsbD_of_ge lo i (by omega)]
  rw [this, BitVec.toNat_append, Nat.shiftLeft_eq, Nat.mul_comm, ← Nat.two_pow_add_eq_or_of_lt lo.isLt]
  omega

end Sys2Proof.Machine
end

