-- ==== Sys2Proof/Laws/Decoder.lean ====
section
/-! SUPPORT. The byte step: its cases by the length of the candidate, and what each keeps. -/

namespace Sys2Proof.Machine

theorem pktLen_eq : Config.pktLen = 47 := rfl
theorem hdr_eq : Config.hdr = 0x54#8 := rfl
theorem verlen_eq : Config.verlen = 0x2C#8 := rfl

/-- Everything a byte step can do (41_frame_decoder.md rule R132). -/
theorem decStep_cases (P : Config.Params) (b : Byte) (s : State) :
    (s.buf = [] ∧ b ≠ Config.hdr ∧ decStep P b s = (.cont, s)) ∨
      (s.buf = [] ∧ b = Config.hdr ∧ decStep P b s = (.cont, s.capture b)) ∨
      (s.buf.length = 1 ∧ b = Config.verlen ∧ decStep P b s = (.cont, s.capture b)) ∨
      (s.buf.length = 1 ∧ b ≠ Config.verlen ∧ decStep P b s = (.badVersion, s.reject b)) ∨
      (2 ≤ s.buf.length ∧ s.buf.length ≤ Config.pktLen - 2 ∧ decStep P b s = (.cont, s.capture b)) ∨
      (Config.pktLen - 1 ≤ s.buf.length ∧ crc8 P s.buf = b ∧
        decStep P b s = (.frame, s.deliver (decodeFrame (s.buf ++ [b])))) ∨
      (Config.pktLen - 1 ≤ s.buf.length ∧ crc8 P s.buf ≠ b ∧ decStep P b s = (.badChecksum, s.reject b)) := by
  unfold decStep
  rw [pktLen_eq]
  split_ifs with h0 hb h1 hv h2 hc
  · exact .inr (.inl ⟨List.length_eq_zero_iff.mp h0, hb, rfl⟩)
  · exact .inl ⟨List.length_eq_zero_iff.mp h0, hb, rfl⟩
  · exact .inr (.inr (.inl ⟨h1, hv, rfl⟩))
  · exact .inr (.inr (.inr (.inl ⟨h1, hv, rfl⟩)))
  · exact .inr (.inr (.inr (.inr (.inl ⟨by omega, h2, rfl⟩))))
  · exact .inr (.inr (.inr (.inr (.inr (.inl ⟨by omega, hc, rfl⟩)))))
  · exact .inr (.inr (.inr (.inr (.inr (.inr ⟨by omega, hc, rfl⟩)))))

/-- The registers no byte step writes: the controller's, the operands', the accumulator, the environment's. -/
theorem decStep_frame (P : Config.Params) (b : Byte) (s : State) :
    let t := (decStep P b s).2
    t.cfg = s.cfg ∧ t.settings = s.settings ∧ t.cbValid = s.cbValid ∧ t.cbHandle = s.cbHandle ∧
      t.argSpeed = s.argSpeed ∧ t.argAngle = s.argAngle ∧ t.argPwm = s.argPwm ∧ t.argCb = s.argCb ∧
      t.crcAcc = s.crcAcc ∧ t.busy = s.busy ∧ t.result = s.result ∧ t.cmdOvr = s.cmdOvr ∧ t.src = s.src ∧
      t.srcPresent = s.srcPresent ∧ t.events = s.events ∧ t.reads = s.reads ∧ t.schedule = s.schedule ∧
      t.recurring = s.recurring := by
  rcases decStep_cases P b s with ⟨-, -, h⟩ | ⟨-, -, h⟩ | ⟨-, -, h⟩ | ⟨-, -, h⟩ | ⟨-, -, h⟩ | ⟨-, -, h⟩ | ⟨-, -, h⟩ <;>
    simp [h]

/-- Everything a block step of a running READ_FRAME can do (rule R140). -/
theorem readFrameStep_cases (P : Config.Params) (s : State) :
    (s.take = none ∧ readFrameStep P s = .next (finishEmpty s)) ∨
      (∃ b s', s.take = some (b, s') ∧ s'.buf.length < Config.pktLen ∧
        readFrameStep P s = .next (endByteStep (decStep P b s'))) ∨
      (∃ b s', s.take = some (b, s') ∧ Config.pktLen ≤ s'.buf.length ∧
        readFrameStep P s = .fault .candidateOverrun) := by
  unfold readFrameStep
  cases h : s.take with
  | none => simp
  | some p =>
    obtain ⟨b, s'⟩ := p
    by_cases hl : s'.buf.length < Config.pktLen
    · exact .inr (.inl ⟨b, s', rfl, hl, by simp [hl]⟩)
    · exact .inr (.inr ⟨b, s', rfl, by omega, by simp [hl]⟩)

/-- Taking a byte leaves the candidate. -/
theorem take_buf {s s' : State} {b : Byte} (h : s.take = some (b, s')) : s'.buf = s.buf := by
  rcases take_eq_some h with ⟨_, _, rfl⟩ | ⟨_, _, _, rfl⟩ <;> rfl

@[simp] theorem endByteStep_cont (s : State) : endByteStep (.cont, s) = s := rfl
@[simp] theorem endByteStep_frame (s : State) : endByteStep (.frame, s) = s.finish .frame := rfl
@[simp] theorem endByteStep_badVersion (s : State) : endByteStep (.badVersion, s) = s.finish .badVersion := rfl
@[simp] theorem endByteStep_badChecksum (s : State) : endByteStep (.badChecksum, s) = s.finish .badChecksum := rfl

/-- Capturing the next byte of a packet keeps the markers. -/
theorem markersOk_capture {buf : List Byte} {b : Byte} (h : markersOk buf) (h0 : buf = [] → b = Config.hdr)
    (h1 : buf.length = 1 → b = Config.verlen) : markersOk (buf ++ [b]) := by
  rcases buf with - | ⟨x, - | ⟨y, zs⟩⟩
  · simp [markersOk, h0 rfl]
  · simpa [markersOk, h1 rfl] using h
  · simpa [markersOk] using h

end Sys2Proof.Machine
end

