-- ==== Sys2Proof/Laws/PerInstr.lean ====
section
/-! SUPPORT. Facts about every command as syntax, one lemma per constructor. -/

/-- Family TableRow: the command's word is selected by its own row of the opcode map (30_encoding.md rule R81). -/
abbrev Sys2Proof.Laws.TableRow.Statement (i : Sys2Proof.Instr) : Prop :=
  (Sys2Proof.opcodeRow i).selects (Sys2Proof.encode i) = true

namespace Sys2Proof.Laws.TableRow

theorem initDefaults : Statement .initDefaults := by decide

theorem configure (a p : Bool) : Statement (.configure a p) := by revert a p; decide

theorem registerCb : Statement .registerCb := by decide

theorem readFrame : Statement .readFrame := by decide

theorem crcClear : Statement .crcClear := by decide

theorem crcFeed (b : Byte) : Statement (.crcFeed b) := by
  revert b; decide +kernel

end Sys2Proof.Laws.TableRow
end

