-- ==== Sys2Proof/Laws/Registers.lean ====
section
/-! SUPPORT. The register map: every register stands at its offset and nowhere else. -/

namespace Sys2Proof.Machine

/-- The map finds every register at its own offset, so no two registers share one. -/
theorem regAt_offset (r : Reg) : regAt r.offset = some r := by
  cases r with
  | sample i => revert i; decide
  | _ => decide

/-- Offsets 0x44 to 0x7C are unmapped (20_memory.md rule R55). -/
theorem regAt_unmapped {off : Nat} (h1 : 0x44 ≤ off) (h2 : off ≤ 0x7C) : regAt off = none := by
  have : ∀ k : Fin 0x39, regAt (0x44 + k.val) = none := by decide +kernel
  have h := this ⟨off - 0x44, by omega⟩
  rwa [show 0x44 + (off - 0x44) = off by omega] at h

/-- What is found at an offset stands there. -/
theorem offset_of_regAt {off : Nat} {r : Reg} (h : regAt off = some r) : r.offset = off := by
  simpa using List.find?_some h

theorem regRead_offset (r : Reg) (s : State) : regRead r.offset s = regValue s r := by
  simp [regRead, regAt_offset]

theorem regRead_unmapped {off : Nat} (s : State) (h1 : 0x44 ≤ off) (h2 : off ≤ 0x7C) : regRead off s = 0 := by
  simp [regRead, regAt_unmapped h1 h2]

/-- A write to CMD runs the word. -/
theorem regWrite_cmd (v : Word) (s : State) : regWrite 0x00 v s = cmdWrite v s := by
  simp [regWrite, show regAt 0x00 = some .cmd from regAt_offset .cmd]

/-- Everything a register write can do. -/
theorem regWrite_cases (off : Nat) (v : Word) (s : State) :
    (off = 0x00 ∧ regWrite off v s = cmdWrite v s) ∨
      (off = 0x08 ∧ regWrite off v s = .next { s with argSpeed := v }) ∨
      (off = 0x0C ∧ regWrite off v s = .next { s with argAngle := v }) ∨
      (off = 0x10 ∧ regWrite off v s = .next { s with argPwm := v }) ∨
      (off = 0x14 ∧ regWrite off v s = .next { s with argCb := v }) ∨
      (off ≠ 0x00 ∧ off ≠ 0x08 ∧ off ≠ 0x0C ∧ off ≠ 0x10 ∧ off ≠ 0x14 ∧ regWrite off v s = .next s) := by
  by_cases h0 : off = 0x00
  · exact .inl ⟨h0, by rw [h0, regWrite_cmd]⟩
  by_cases h8 : off = 0x08
  · exact .inr (.inl ⟨h8, by rw [h8]; simp [regWrite, show regAt 0x08 = some .argSpeed from regAt_offset .argSpeed]⟩)
  by_cases hc : off = 0x0C
  · exact .inr (.inr (.inl ⟨hc, by
      rw [hc]; simp [regWrite, show regAt 0x0C = some .argAngle from regAt_offset .argAngle]⟩))
  by_cases h10 : off = 0x10
  · exact .inr (.inr (.inr (.inl ⟨h10, by
      rw [h10]; simp [regWrite, show regAt 0x10 = some .argPwm from regAt_offset .argPwm]⟩)))
  by_cases h14 : off = 0x14
  · exact .inr (.inr (.inr (.inr (.inl ⟨h14, by
      rw [h14]; simp [regWrite, show regAt 0x14 = some .argCb from regAt_offset .argCb]⟩))))
  refine .inr (.inr (.inr (.inr (.inr ⟨h0, h8, hc, h10, h14, ?_⟩))))
  unfold regWrite
  cases h : regAt off with
  | none => rfl
  | some r =>
    have ho := offset_of_regAt h
    cases r <;> first | rfl | (exfalso; simp [Reg.offset] at ho; omega)

end Sys2Proof.Machine
end

