-- ==== Sys2Proof/Laws/Step.lean ====
section
/-! SUPPORT. Everything one step can do, and how runs compose. -/

namespace Sys2Proof.Machine

theorem endTurn_of_cons {s : State} {a : Action} {rest : List Action} (h : s.schedule = a :: rest) :
    s.endTurn = { s with schedule := rest } := by
  simp [State.endTurn, State.pending_of_cons h]

theorem nextAction_of_cons {s : State} {a : Action} {rest : List Action} (h : s.schedule = a :: rest) :
    s.nextAction = a := by
  simp [State.nextAction, State.pending_of_cons h]

/-- With nothing pending the block has the turn. -/
theorem nextAction_quiet {s : State} (h : s.schedule = []) (hr : s.recurring = []) : s.nextAction = .block := by
  simp [State.nextAction, State.pending_of_nil h, hr]

theorem endTurn_quiet {s : State} (h : s.schedule = []) (hr : s.recurring = []) : s.endTurn = s := by
  obtain ⟨⟩ := s
  simp only at h hr
  simp [State.endTurn, State.pending, h, hr]

/-- A step is the next agent's. -/
theorem step_turn {s : State} {a : Action} (h : s.nextAction = a) : step s = agentStep a s.endTurn := by
  rw [step, h]

theorem step_cons {s : State} {a : Action} {rest : List Action} (h : s.schedule = a :: rest) :
    step s = agentStep a s.endTurn := step_turn (nextAction_of_cons h)

theorem step_quiet {s : State} (h : s.schedule = []) (hr : s.recurring = []) : step s = blockStep s := by
  rw [step_turn (nextAction_quiet h hr), endTurn_quiet h hr]
  rfl

theorem accessRefusal_none {a : Access} : accessRefusal a = none ↔ a.bytes = 4 ∧ a.off % 4 = 0 ∧ a.off < 0x100 := by
  unfold accessRefusal
  split_ifs <;> simp_all

theorem hostAccess_read {off : Nat} (s : State) (h4 : off % 4 = 0) (h : off < 0x100) :
    hostAccess ⟨off, 4, .read⟩ s = .next (s.recordRead off) := by
  simp [hostAccess, show accessRefusal ⟨off, 4, .read⟩ = none from accessRefusal_none.mpr ⟨rfl, h4, h⟩]

theorem hostAccess_write {off : Nat} (v : Word) (s : State) (h4 : off % 4 = 0) (h : off < 0x100) :
    hostAccess ⟨off, 4, .write v⟩ s = regWrite off v s := by
  simp [hostAccess, show accessRefusal ⟨off, 4, .write v⟩ = none from accessRefusal_none.mpr ⟨rfl, h4, h⟩]

/-- A host write whose turn it is, of a word of the window, is the register write. -/
theorem step_regWrite {s : State} {off : Nat} {v : Word} (h : s.nextAction = .regWrite off v)
    (h4 : off % 4 = 0) (hl : off < 0x100) : step s = regWrite off v s.endTurn := by
  rw [step_turn h]
  exact hostAccess_write v _ h4 hl

/-- A host read whose turn it is, of a word of the window, is recorded. -/
theorem step_regRead {s : State} {off : Nat} (h : s.nextAction = .regRead off)
    (h4 : off % 4 = 0) (hl : off < 0x100) : step s = .next (s.endTurn.recordRead off) := by
  rw [step_turn h]
  exact hostAccess_read _ h4 hl

/-- A CMD write whose turn it is runs the word. -/
theorem step_cmdWrite {s : State} {w : Word} (h : s.nextAction = .regWrite 0x00 w) :
    step s = cmdWrite w s.endTurn := by
  rw [step_regWrite h rfl (by decide), regWrite_cmd]

/-- A CMD write answers a next state whatever the word: dropped, illegal, or the command's effect
(20_memory.md rules R56, R57). -/
theorem cmdWrite_next {w : Word} {s t : State} (h : cmdWrite w s = .next t) :
    (s.busy = true ∧ t = s.dropCmd) ∨
      (s.busy = false ∧ (∃ e, decode w = .error e) ∧ t = s.finish .errIllegal) ∨
      (s.busy = false ∧ ∃ i, decode w = .ok i ∧ t = commandEffect i s) := by
  unfold cmdWrite at h
  split at h
  · rename_i i hd
    rw [exec_eq_accept] at h
    rcases accept_next h with h | ⟨hb, rfl⟩
    · exact .inl h
    · exact .inr (.inr ⟨hb, i, hd, rfl⟩)
  · rename_i e hd
    rcases accept_next h with h | ⟨hb, rfl⟩
    · exact .inl h
    · exact .inr (.inl ⟨hb, ⟨e, hd⟩, rfl⟩)

/-- A CMD write is never a fault and never refused. -/
theorem cmdWrite_total (w : Word) (s : State) : ∃ t, cmdWrite w s = .next t := by
  have key : ∀ run : State → State, ∃ t, s.accept run = .next t := fun run => by
    unfold State.accept; split <;> exact ⟨_, rfl⟩
  unfold cmdWrite
  split
  · rw [exec_eq_accept]; exact key _
  · exact key _

/-- A register write is never a fault and never refused. -/
theorem regWrite_total (off : Nat) (v : Word) (s : State) : ∃ t, regWrite off v s = .next t := by
  rcases regWrite_cases off v s with ⟨-, h⟩ | ⟨-, h⟩ | ⟨-, h⟩ | ⟨-, h⟩ | ⟨-, h⟩ | ⟨-, -, -, -, -, h⟩ <;> rw [h]
  · exact cmdWrite_total _ _
  all_goals exact ⟨_, rfl⟩

/-- The block's step is never refused. -/
theorem blockStep_not_refused (s : State) (r : Refusal) : blockStep s ≠ .refused r := by
  unfold blockStep
  split
  · rcases readFrameStep_cases Config.params s with ⟨-, h⟩ | ⟨_, _, -, -, h⟩ | ⟨_, _, -, -, h⟩ <;> rw [h] <;> simp
  · simp

/-- Everything a step of the block that goes on can do (41_frame_decoder.md rule R140). -/
theorem blockStep_next {s t : State} (h : blockStep s = .next t) :
    (s.busy = false ∧ t = s) ∨ (s.busy = true ∧ s.take = none ∧ t = finishEmpty s) ∨
      (s.busy = true ∧ ∃ b s', s.take = some (b, s') ∧ s'.buf.length < Config.pktLen ∧
        t = endByteStep (decStep Config.params b s')) := by
  unfold blockStep at h
  cases hb : s.busy <;> simp only [hb, Bool.false_eq_true, ↓reduceIte] at h
  · cases h
    exact .inl ⟨rfl, rfl⟩
  · rcases readFrameStep_cases Config.params s with ⟨ht, e⟩ | ⟨b, s', ht, hl, e⟩ | ⟨b, s', ht, hl, e⟩ <;>
      rw [e] at h <;> cases h
    · exact .inr (.inl ⟨rfl, ht, rfl⟩)
    · exact .inr (.inr ⟨rfl, b, s', ht, hl, rfl⟩)

/-- A write to an operand register stores the value and nothing else (20_memory.md rule R54). -/
theorem agentStep_argSpeed (v : Word) (s : State) :
    agentStep (.regWrite 0x08 v) s = .next { s with argSpeed := v } :=
  (hostAccess_write v s rfl (by decide)).trans
    (by simp [regWrite, show regAt 0x08 = some .argSpeed from regAt_offset .argSpeed])

theorem agentStep_argAngle (v : Word) (s : State) :
    agentStep (.regWrite 0x0C v) s = .next { s with argAngle := v } :=
  (hostAccess_write v s rfl (by decide)).trans
    (by simp [regWrite, show regAt 0x0C = some .argAngle from regAt_offset .argAngle])

theorem agentStep_argPwm (v : Word) (s : State) :
    agentStep (.regWrite 0x10 v) s = .next { s with argPwm := v } :=
  (hostAccess_write v s rfl (by decide)).trans
    (by simp [regWrite, show regAt 0x10 = some .argPwm from regAt_offset .argPwm])

theorem agentStep_argCb (v : Word) (s : State) :
    agentStep (.regWrite 0x14 v) s = .next { s with argCb := v } :=
  (hostAccess_write v s rfl (by decide)).trans
    (by simp [regWrite, show regAt 0x14 = some .argCb from regAt_offset .argCb])

/-- A CMD write is `cmdWrite`. -/
theorem agentStep_cmd (w : Word) (s : State) : agentStep (.regWrite 0x00 w) s = cmdWrite w s :=
  (hostAccess_write w s rfl (by decide)).trans (regWrite_cmd w s)

/-- Everything a step that goes on can do, by the agent whose turn it is. -/
theorem step_next {s t : State} (h : step s = .next t) :
    (∃ w, s.nextAction = .regWrite 0x00 w ∧ cmdWrite w s.endTurn = .next t) ∨
      (∃ v, s.nextAction = .regWrite 0x08 v ∧ t = { s.endTurn with argSpeed := v }) ∨
      (∃ v, s.nextAction = .regWrite 0x0C v ∧ t = { s.endTurn with argAngle := v }) ∨
      (∃ v, s.nextAction = .regWrite 0x10 v ∧ t = { s.endTurn with argPwm := v }) ∨
      (∃ v, s.nextAction = .regWrite 0x14 v ∧ t = { s.endTurn with argCb := v }) ∨
      (∃ off v, s.nextAction = .regWrite off v ∧ t = s.endTurn) ∨
      (∃ off, s.nextAction = .regRead off ∧ t = s.endTurn.recordRead off) ∨
      (s.nextAction = .poll ∧ t = hostPoll s.endTurn) ∨
      (∃ bs, s.nextAction = .source bs ∧ t = s.endTurn.srcAppend bs) ∨
      (s.nextAction = .reset ∧ t = s.endTurn.hardReset) ∨
      (s.nextAction = .block ∧ blockStep s.endTurn = .next t) := by
  obtain ⟨a, hn⟩ : ∃ a, s.nextAction = a := ⟨_, rfl⟩
  rw [step_turn hn] at h
  simp only [hn]
  cases a with
  | poll => simp_all [agentStep]
  | source bs => simp_all [agentStep]
  | reset => simp_all [agentStep]
  | block => simp_all [agentStep]
  | host acc =>
    simp only [agentStep, hostAccess] at h
    obtain ⟨off, bytes, op⟩ := acc
    split at h
    · cases h
    · rename_i hr
      obtain ⟨rfl, -, -⟩ := accessRefusal_none.mp hr
      cases op with
      | read => simp_all
      | write v =>
        rcases regWrite_cases off v s.endTurn with
          ⟨ho, hw⟩ | ⟨ho, hw⟩ | ⟨ho, hw⟩ | ⟨ho, hw⟩ | ⟨ho, hw⟩ | ⟨-, -, -, -, -, hw⟩ <;>
        simp_all

@[simp] theorem runSteps_zero (s : State) : runSteps 0 s = .next s := rfl

theorem runSteps_succ (k : Nat) (s : State) :
    runSteps (k + 1) s = match step s with
      | .next t => runSteps k t
      | .fault r => .fault r
      | .refused r => .refused r := by
  cases h : step s <;>
    (have h' : Sys2Proof.core.step s = _ := h; simp only [runSteps, Host.Core.run, h']; rfl)

theorem runSteps_of_step {k : Nat} {s t : State} (h : step s = .next t) : runSteps (k + 1) s = runSteps k t := by
  rw [runSteps_succ, h]

/-- Runs compose. -/
theorem runSteps_add {j k : Nat} {s t : State} (h : runSteps j s = .next t) :
    runSteps (j + k) s = runSteps k t := by
  induction j generalizing s with
  | zero => cases h; simp
  | succ j ih =>
    rw [runSteps_succ] at h
    rw [show j + 1 + k = (j + k) + 1 by omega, runSteps_succ]
    cases hs : step s <;> simp_all

end Sys2Proof.Machine
end

