-- ==== Sys2Proof/Tests/Slice0.lean ====
section
/-! SUPPORT. Tests of the model against words and values the spec writes out, and, for every statement that has
hypotheses, a concrete state and operands that meet them. Expected values come from spec/95_test_vectors.md, named
V-…, or by hand from the rule named. -/

namespace Sys2Proof.Tests

open Sys2Proof Sys2Proof.Machine

/-! ## Helpers -/

/-- The state a step goes on to, if it does. -/
def goesTo (o : Host.Outcome State Fault Refusal) : Option State :=
  match o with
  | .next t => some t
  | _ => none

/-- Why a step is refused, if it is. -/
def refusalOf (o : Host.Outcome State Fault Refusal) : Option Refusal :=
  match o with
  | .refused r => some r
  | _ => none

/-- A Configured block with the settings of V-S3. -/
def configured : State := { State.reset with cfg := .configured, settings := ⟨500, 180, 20000⟩ }

/-- The same with a callback registered. -/
def withCallback : State := { configured with cbValid := true, cbHandle := 0xCAFE }

/-- A Configured block while a READ_FRAME runs. -/
def running : State := { configured with busy := true }

/-- The state with the agents' coming steps. -/
def scheduled (s : State) (as : List Action) : State := { s with schedule := as }

/-- The state with the turns that recur once the schedule is used up. -/
def repeating (s : State) (as : List Action) : State := { s with recurring := as }

/-- Bytes 0 to 45 of V-D13: the markers and an all-zero body. -/
def zeroBody : List Byte := 0x54#8 :: 0x2C#8 :: List.replicate 44 0#8

/-- Packet A of 95_test_vectors.md section 2.1, by rows of 16. -/
def packetA : List Byte :=
  [0x54, 0x2C, 0x10, 0x0E, 0xE8, 0x03, 0xC8, 0x00, 0xA0, 0xE1, 0x00, 0xA1, 0xFA, 0x00, 0xA2, 0x13] ++
    [0x01, 0xA3, 0x2C, 0x01, 0xA4, 0x45, 0x01, 0xA5, 0x5E, 0x01, 0xA6, 0x77, 0x01, 0xA7, 0x90, 0x01] ++
    [0xA8, 0xA9, 0x01, 0xA9, 0xC2, 0x01, 0xAA, 0xDB, 0x01, 0xAB, 0x94, 0x11, 0x39, 0x30, 0xEF]

/-- A frame whose fields are not all 0. -/
def frameOne : Frame := { Frame.zero with speed := 1 }

/-- A valid packet for the open table. -/
def openPacket : List Byte := packetOf Config.params Frame.zero

/-- A byte that differs from `c` and from the header. -/
def otherThan (c : Byte) : Byte := if c = 0 then 1 else 0

/-! ## Well-formedness: each check refuses a term -/

theorem test_wellFormed_refuses_halfword : (⟨0x08, 2, .read⟩ : Access).wellFormed = false := by decide
theorem test_wellFormed_refuses_misaligned : (⟨0x0A, 4, .read⟩ : Access).wellFormed = false := by decide
theorem test_wellFormed_refuses_outside : (⟨0x100, 4, .write 0⟩ : Access).wellFormed = false := by decide
theorem test_wellFormed_admits_last_word : (⟨0xFC, 4, .read⟩ : Access).wellFormed = true := by decide
theorem test_wellFormed_every_command : Instr.wellFormed (.crcFeed 0xFF) = true := by decide

/-- Each refusal under its own name, and the last word of the window is admitted (rule R52). -/
theorem test_access_refusals :
    refusalOf (step (scheduled .reset [.host ⟨0x08, 1, .read⟩])) = some .accessNotWord ∧
      refusalOf (step (scheduled .reset [.host ⟨0x02, 4, .read⟩])) = some .accessMisaligned ∧
      refusalOf (step (scheduled .reset [.host ⟨0x100, 4, .write 1⟩])) = some .accessOutsideWindow ∧
      refusalOf (step (scheduled .reset [.host ⟨0xFC, 4, .read⟩])) = none := by decide +kernel

/-! ## Decoding: words written out bit by bit from rules R80 and R81 -/

theorem test_decode_initDefaults : decode 0b00000000000000000000000000000001#32 = .ok .initDefaults := by rfl
theorem test_decode_configure : decode 0b00000000000000000000000000000010#32 = .ok (.configure false false) := by rfl
theorem test_decode_configure_a : decode 0b00000000000000000000000100000010#32 = .ok (.configure true false) := by rfl
theorem test_decode_configure_p : decode 0b00000000000000000000001000000010#32 = .ok (.configure false true) := by rfl
theorem test_decode_registerCb : decode 0b00000000000000000000000000000011#32 = .ok .registerCb := by rfl
theorem test_decode_readFrame : decode 0b00000000000000000000000000000100#32 = .ok .readFrame := by rfl
theorem test_decode_crcClear : decode 0b00000000000000000000000000000101#32 = .ok .crcClear := by rfl
theorem test_decode_crcFeed : decode 0b00000000000000000101010000000110#32 = .ok (.crcFeed 0x54) := by rfl

/-- V-E1 to V-E5 and V-E7: the illegal words of section 2.5. -/
theorem test_decode_illegal :
    decode 0x00000000#32 = .error .reservedOp ∧ decode 0x00000007#32 = .error .reservedOp ∧
      decode 0x000000FF#32 = .error .reservedOp ∧ decode 0x00000402#32 = .error .reservedBits ∧
      decode 0x00010006#32 = .error .reservedBits ∧ decode 0x00000104#32 = .error .reservedBits := by
  exact ⟨rfl, rfl, rfl, rfl, rfl, rfl⟩

/-- The lowest-addressed byte of the bus word is the opcode (rule R51); a command is never shorter. -/
theorem test_decodeBytes_little_endian :
    decodeBytes [0x06, 0xFF, 0x00, 0x00] = .ok (.crcFeed 0xFF) ∧ decodeBytes [0x06, 0xFF] = .error .notOneWord := by
  exact ⟨rfl, rfl⟩

theorem test_decodeTableWord :
    decodeTableWord 32 0x302 = some (.configure true true) ∧ decodeTableWord 32 0x402 = none ∧
      decodeTableWord 8 0x5 = some .crcClear := by decide +kernel

/-- No word is in two rows of the opcode map. -/
theorem test_rows_disjoint :
    ([Instr.initDefaults, .configure false false, .registerCb, .readFrame, .crcClear, .crcFeed 0].map
      opcodeRow).Pairwise fun r s => r.pattern &&& s.mask &&& r.mask ≠ s.pattern &&& r.mask &&& s.mask := by decide

theorem test_withFetchWord_runs :
    ((goesTo (step (State.reset.withFetchWord 32 0x00000003))).map fun t => (t.cbValid, t.result)) =
      some (true, .done) := by decide +kernel

/-! ## The checksum engine, over the reference table -/

/-- V-C1 to V-C4. -/
theorem test_crc8_short :
    crc8 refParams [] = 0x00 ∧ crc8 refParams [0x00] = 0x00 ∧ crc8 refParams [0x54] = 0xEE ∧
      crc8 refParams [0x54, 0x2C] = 0xD8 := by decide
/-- V-C6 to V-C8. -/
theorem test_crc8_single : refTable 0x01 = 0x4D ∧ refTable 0x80 = 0x7C ∧ refTable 0xFF = 0xA8 := by decide
/-- V-C11 and V-C12. -/
theorem test_crc8_packetA :
    crc8 refParams (packetA.take 46) = 0xEF ∧ crc8 refParams packetA = 0x00 := by decide +kernel
/-- V-C13. -/
theorem test_crc8_zero_body : crc8 refParams zeroBody = 0xBE := by decide +kernel
/-- Row 5_ of the table of rule R112. -/
theorem test_refTable_row5 :
    ([0x50, 0x51, 0x52, 0x53, 0x54, 0x55, 0x56, 0x57, 0x58, 0x59, 0x5A, 0x5B, 0x5C, 0x5D, 0x5E, 0x5F].map refTable :
        List Byte) =
      [0x97, 0xDA, 0x0D, 0x40, 0xEE, 0xA3, 0x74, 0x39, 0x65, 0x28, 0xFF, 0xB2, 0x1C, 0x51, 0x86, 0xCB] := by decide

/-- V-C17. -/
theorem test_crcClear :
    exec .crcClear { State.reset with crcAcc := 0xD8 } = .next { State.reset with result := .done } := by rfl
/-- V-C18: the engine ignores `cfg`. -/
theorem test_crcFeed :
    (crcFeed refParams 0x54 State.reset).crcAcc = 0xEE ∧ (crcFeed refParams 0x54 State.reset).cfg = .unconfigured ∧
      (crcFeed refParams 0x54 State.reset).result = .done := by decide
/-- V-C16. -/
theorem test_crcFeed_accumulator_value : (crcFeed refParams 0xD8 { State.reset with crcAcc := 0xD8 }).crcAcc = 0x00 := by
  decide

/-! ## The scan controller -/

/-- V-S1. -/
theorem test_initDefaults :
    exec .initDefaults State.reset = .next
      { State.reset with
        cfg := .configured, settings := ⟨Config.defaultSpeed, 360, 10000⟩, result := .done } := by rfl
/-- V-S2. -/
theorem test_initDefaults_again :
    exec .initDefaults configured = .next { configured with result := .errReinit } := by rfl
/-- V-S3. -/
theorem test_configure :
    exec (.configure true true) { withCallback with argSpeed := 0x1F4, argAngle := 0xB4, argPwm := 0x4E20 } = .next
      { withCallback with
        argSpeed := 0x1F4, argAngle := 0xB4, argPwm := 0x4E20, result := .done
        events := [⟨0xCAFE, 500, 180, 20000, Config.pwmDerive 20000⟩] } := by rfl
/-- V-S8: CONFIGURE.A of a negative speed, no callback. -/
theorem test_configure_negative :
    exec (.configure true false) { configured with argSpeed := 0xFFFFFFFF } = .next
      { configured with argSpeed := 0xFFFFFFFF, settings := ⟨0xFFFFFFFF, 0, 10000⟩, result := .done } := by rfl
/-- V-S11: handle 0 is a handle. -/
theorem test_registerCb_zero :
    exec .registerCb State.reset = .next { State.reset with cbValid := true, result := .done } := by rfl
/-- V-S9: a second registration replaces the first. -/
theorem test_registerCb_replaces :
    exec .registerCb { withCallback with argCb := 0x22 } = .next
      { withCallback with argCb := 0x22, cbHandle := 0x22, result := .done } := by rfl

/-! ## READ_FRAME and the byte step -/

/-- V-E9: the controller's state is checked before the byte source. -/
theorem test_readFrame_not_init :
    exec .readFrame { State.reset with srcPresent := false } = .next
      { State.reset with srcPresent := false, result := .errNotInit } := by rfl
/-- V-D14: no byte is taken, `replay` included. -/
theorem test_readFrame_no_source :
    exec .readFrame { configured with srcPresent := false, replay := [0x54] } = .next
      { configured with srcPresent := false, replay := [0x54], result := .errNoSource } := by rfl
/-- V-D4, the second byte: the second header byte goes back into the stream. -/
theorem test_byteStep_bad_version :
    readFrameStep refParams { running with buf := [0x54], src := [0x54, 0x2C] } = .next
      { configured with replay := [0x54], src := [0x2C], result := .badVersion } := by rfl
/-- V-D11, the last byte: the checksum of rule R112 over an all-zero body is 0xBE. -/
theorem test_byteStep_frame :
    ((goesTo (readFrameStep refParams { running with buf := zeroBody, src := [0xBE, 0x01] })).map fun t =>
        (t.result, t.frameValid, t.buf, t.src, decide (t.frame = Frame.zero))) =
      some (.frame, true, [], [0x01], true) := by decide +kernel
/-- V-D6, the last byte: 46 bytes are pushed back, the first of them the version marker. -/
theorem test_byteStep_bad_checksum :
    ((goesTo (readFrameStep refParams { running with buf := packetA.take 46, src := [0x10] })).map fun t =>
        (t.result, t.frameValid, t.replay.length, t.replay.head?, t.replay.getLast?)) =
      some (.badChecksum, false, 46, some 0x2C, some 0x10) := by decide +kernel
/-- V-D1: the fields of packet A. -/
theorem test_decodeFrame_packetA :
    (decodeFrame packetA).speed = 3600 ∧ (decodeFrame packetA).startAngle = 1000 ∧
      (decodeFrame packetA).endAngle = 4500 ∧ (decodeFrame packetA).timestamp = 12345 ∧
      (decodeFrame packetA).dist[11] = 475 ∧ (decodeFrame packetA).conf[11] = 0xAB := by decide +kernel
/-- V-D2a and V-D2b, the step that finds the stream empty. -/
theorem test_stream_empty :
    blockStep running = .next { configured with result := .noData } ∧
      blockStep { running with buf := [0x54] } = .next { configured with buf := [0x54], result := .insufficient } := by
  exact ⟨rfl, rfl⟩
/-- V-E10 and V-E11: dropped before the word is decoded. -/
theorem test_dropped_while_busy :
    step (scheduled running [.regWrite 0x00 0x00000001#32]) = .next { running with cmdOvr := true } ∧
      step (scheduled running [.regWrite 0x00 0x00000000#32]) = .next { running with cmdOvr := true } := by
  exact ⟨rfl, rfl⟩

/-- The recurring turns are taken anew once the schedule is used up (20_memory.md rule R65, log 24). -/
theorem test_recurring_turns :
    ((goesTo (step (repeating running [.source [0x01], .block]))).map fun t => (t.src, t.schedule, t.recurring)) =
      some ([0x01], [.block], [.source [0x01], .block]) := by decide +kernel

/-! ## The register space -/

/-- V-E12 to V-E15. -/
theorem test_register_reads :
    regRead 0x00 running = 0 ∧ regRead 0x44 running = 0 ∧ regRead 0x1C State.reset = 0x2F2C540C#32 ∧
      regRead 0x04 State.reset = 0x200#32 := by decide +kernel
/-- P3: STATUS = FRAME + CFG + FRAME_VALID + SRC_PRESENT, DEC_STATE with one byte to replay. -/
theorem test_status_and_decState :
    regRead 0x04 { configured with result := .frame, frameValid := true } = 0x2A2#32 ∧
      regRead 0x40 { configured with replay := [0x00] } = 0x00000100#32 := by decide +kernel
/-- P3: FR_SAMPLE[11] = 0x00AB01DB, FR_SAMPLE[12] reads 0. -/
theorem test_sample_registers :
    regRead 0xAC { configured with frame := decodeFrame packetA } = 0x00AB01DB#32 ∧
      regRead 0xB0 { configured with frame := decodeFrame packetA } = 0 := by decide +kernel

/-- Programmer errors are exactly the codes of 8 and above (60_exceptions.md rule R201). -/
theorem test_error_codes (c : ResultCode) : c.isError = decide (8 ≤ c.code.toNat) := by cases c <;> rfl

/-- The command mnemonics of rule R90, suffix and all. -/
theorem test_mnemonics :
    mnemonic (.configure true false) = "CONFIGURE.A" ∧ mnemonic (.configure false true) = "CONFIGURE.P" := by decide

/-! ## Witnesses: encoding and the register space -/

theorem witness_DecodeEncodeAgree :
    Instr.wellFormed (.crcFeed 0xFF) = true ∧ decode 0x0000FF06#32 = .ok (.crcFeed 0xFF) := ⟨rfl, rfl⟩

/-- One word for each disjunct of the illegal words, at its boundary, and a state that accepts it. -/
theorem witness_IllegalWordChangesOnlyResult :
    (∀ w ∈ [0x00000000#32, 0x00000007#32, 0x000000FF#32, 0x00000101#32, 0x80000005#32, 0x00000402#32, 0x80000002#32,
      0x00010006#32, 0x80000006#32], ∃ e, decode w = .error e) ∧ State.reset.busy = false := by
  refine ⟨?_, rfl⟩
  simp only [List.forall_mem_cons]
  exact ⟨⟨.reservedOp, rfl⟩, ⟨.reservedOp, rfl⟩, ⟨.reservedOp, rfl⟩, ⟨.reservedBits, rfl⟩, ⟨.reservedBits, rfl⟩,
    ⟨.reservedBits, rfl⟩, ⟨.reservedBits, rfl⟩, ⟨.reservedBits, rfl⟩, ⟨.reservedBits, rfl⟩, by simp⟩

/-- A command and an illegal word whose turn it is, and the three ways a turn is taken. -/
theorem witness_StepRunsTheDecodedCommand :
    (scheduled .reset [.regWrite 0x00 0x302#32]).nextAction = .regWrite 0x00 0x302#32 ∧
      decode 0x302#32 = .ok (.configure true true) ∧ Instr.wellFormed (.configure true true) = true ∧
      (repeating running [.regWrite 0x00 0#32]).nextAction = .regWrite 0x00 0#32 ∧
      decode 0#32 = .error .reservedOp ∧
      (scheduled .reset [.poll, .block]).schedule = .poll :: [.block] ∧
      (repeating .reset [.poll, .block]).schedule = [] ∧
      (repeating .reset [.poll, .block]).recurring = .poll :: [.block] ∧
      State.reset.schedule = [] ∧ State.reset.recurring = [] :=
  ⟨rfl, rfl, rfl, rfl, rfl, rfl, rfl, rfl, rfl, rfl⟩

/-- Each way out of the contract, at its boundary, and an access at the last word inside it. -/
theorem witness_RefusedExactlyOutsideTheContract :
    (∃ r, agentStep (.host ⟨0x00, 3, .read⟩) .reset = .refused r) ∧
      (∃ r, agentStep (.host ⟨0x01, 4, .read⟩) .reset = .refused r) ∧
      (∃ r, agentStep (.host ⟨0x100, 4, .read⟩) .reset = .refused r) ∧
      ∃ t, agentStep (.host ⟨0xFC, 4, .read⟩) .reset = .next t :=
  ⟨⟨_, rfl⟩, ⟨_, rfl⟩, ⟨_, rfl⟩, ⟨_, rfl⟩⟩

theorem witness_RegReadChangesNothing :
    (scheduled running [.regRead 0xFC]).nextAction = .regRead 0xFC ∧ 0xFC % 4 = 0 ∧ 0xFC < 0x100 :=
  ⟨rfl, by decide, by decide⟩

/-- Both settings of each condition on the state, and the boundary samples. -/
theorem witness_RegisterMapContents :
    configured.cfg = .configured ∧ State.reset.cfg = .unconfigured ∧ withCallback.cbValid = true ∧
      configured.cbValid = false ∧ (11 : Nat) < 12 ∧ (12 : Nat) ≤ 31 ∧ (31 : Nat) < 32 :=
  ⟨rfl, rfl, rfl, rfl, by decide, by decide, by decide⟩

/-- The first and last unmapped words; a read-only and the last offset; a write of each ARG register. -/
theorem witness_UnmappedReadOnlyAndReservedBits :
    (∀ off ∈ [0x44, 0x7C], 0x44 ≤ off ∧ off ≤ 0x7C ∧ off % 4 = 0) ∧
      (∀ off ∈ [0x04, 0x18, 0x44, 0xFC], off % 4 = 0 ∧ off < 0x100 ∧ off ∉ [0x00, 0x08, 0x0C, 0x10, 0x14]) ∧
      0x08 ∈ [0x08, 0x0C, 0x10, 0x14] ∧ 0x14 ∈ [0x08, 0x0C, 0x10, 0x14] := by decide

theorem witness_ArgWriteIsAcceptedWhileBusy :
    running.busy = true ∧ ∃ t, blockStep { running with src := [0x54] } = .next t := ⟨rfl, ⟨_, rfl⟩⟩

theorem witness_CmdWriteWhileBusyIsDropped : running.busy = true := rfl

/-- A state and a word for each condition of the order, and the running command's two clauses. -/
theorem witness_CmdWritePriority :
    running.busy = true ∧ (State.reset.busy = false ∧ ∃ e, decode 0#32 = .error e) ∧
      (State.reset.busy = false ∧ decode 0x4#32 = .ok .readFrame ∧ State.reset.cfg = .unconfigured) ∧
      (configured.busy = false ∧ decode 0x1#32 = .ok .initDefaults ∧ configured.cfg = .configured) ∧
      ({ configured with srcPresent := false } : State).srcPresent = false ∧
      (configured.cfg = .configured ∧ configured.srcPresent = true) ∧
      (running.replay = [] ∧ running.src = []) ∧
      ∃ t, blockStep { running with src := [0x54] } = .next t :=
  ⟨rfl, ⟨rfl, _, rfl⟩, ⟨rfl, rfl, rfl⟩, ⟨rfl, rfl, rfl⟩, rfl, ⟨rfl, rfl⟩, ⟨rfl, rfl⟩, ⟨_, rfl⟩⟩

/-- The first and the last word of the window. -/
theorem witness_BusWindowIsTwoHundredFiftySixBytes :
    (⟨0x00, 4, .read⟩ : Access).wellFormed = true ∧ (⟨0xFC, 4, .read⟩ : Access).wellFormed = true ∧
      (⟨0x04, 4, .read⟩ : Access).busAddr = (⟨0x04, 4, .write 1⟩ : Access).busAddr := by
  exact ⟨rfl, rfl, rfl⟩

/-! ## Witnesses: the commands -/

theorem witness_CrcClearSetsTheSeed : configured.busy = false ∧ running.busy = true := ⟨rfl, rfl⟩

theorem witness_CrcFeedTakesOneStep :
    State.reset.busy = false ∧ (0x00010006#32).extractLsb' 16 16 ≠ 0 ∧ (0x80000006#32).extractLsb' 16 16 ≠ 0 := by
  decide

theorem witness_InitDefaultsLoadsThePowerOnSettings :
    (State.reset.busy = false ∧ State.reset.cfg = .unconfigured) ∧ configured.busy = false ∧
      configured.cfg = .configured ∧ running.busy = true := ⟨⟨rfl, rfl⟩, rfl, rfl, rfl⟩

theorem witness_ConfigureReplacesTheSettings :
    (State.reset.busy = false ∧ State.reset.cfg = .unconfigured) ∧ withCallback.busy = false ∧
      withCallback.cfg = .configured := ⟨⟨rfl, rfl⟩, rfl, rfl⟩

/-- One state for each clause: a callback, none, Unconfigured. -/
theorem witness_ConfigureEmitsExactlyOnce :
    (∃ t, exec (.configure true true) withCallback = .next t) ∧ withCallback.cbValid = true ∧
      withCallback.cfg = .configured ∧ (∃ t, exec (.configure false false) configured = .next t) ∧
      configured.cbValid = false ∧ (∃ t, exec (.configure false true) State.reset = .next t) ∧
      State.reset.cfg = .unconfigured := ⟨⟨_, rfl⟩, rfl, rfl, ⟨_, rfl⟩, rfl, ⟨_, rfl⟩, rfl⟩

theorem witness_RegisterCbFillsTheSlot :
    State.reset.busy = false ∧ State.reset.argCb = 0 ∧ withCallback.cbValid = true ∧ Action.block ≠ .reset ∧
      ∃ t, agentStep .block withCallback = .next t := ⟨rfl, rfl, rfl, by decide, ⟨_, rfl⟩⟩

theorem witness_ReadFrameAcceptance :
    (State.reset.busy = false ∧ State.reset.cfg = .unconfigured) ∧
      (configured.busy = false ∧ configured.cfg = .configured ∧ configured.srcPresent = true) ∧
      ({ configured with srcPresent := false } : State).srcPresent = false := ⟨⟨rfl, rfl⟩, ⟨rfl, rfl, rfl⟩, rfl⟩

theorem witness_CommandsCompleteInTheirAcceptanceStep : configured.busy = false ∧ Instr.crcClear ≠ .readFrame := by
  decide

/-- The lowest and the highest error code. -/
theorem witness_ErrorsHaveNoPartialEffect :
    (∃ t, cmdWrite 0x2#32 State.reset = .next t ∧ t.busy = false ∧ t.result.code.toNat = 8) ∧
      (∃ t, cmdWrite 0x0#32 configured = .next t ∧ t.busy = false ∧ t.result.code.toNat = 11) ∧
      State.reset.busy = false ∧ configured.busy = false := ⟨⟨_, rfl, rfl, rfl⟩, ⟨_, rfl, rfl, rfl⟩, rfl, rfl⟩

/-- Every command answers a next state, idle and busy. -/
theorem witness_FrameOfEveryCommand (i : Instr) :
    (∃ t, exec i configured = .next t) ∧ ∃ t, exec i running = .next t := by
  cases i <;> exact ⟨⟨_, rfl⟩, ⟨_, rfl⟩⟩

theorem witness_PseudoConfigureSetsAllThree :
    withCallback.busy = false ∧ withCallback.cfg = .configured ∧ withCallback.schedule = [] := ⟨rfl, rfl, rfl⟩

theorem witness_HostFeedsComputeCrc : State.reset.busy = false ∧ State.reset.schedule = [] := ⟨rfl, rfl⟩

theorem witness_ReferenceTableIsLinearBijection : refTable 0x54 = refTable 0x54 := rfl

theorem witness_ReferenceCrcDetectsSingleByteChange : (0x00 : Byte) ≠ 0x01 := by decide

/-! ## Witnesses: the byte step and its runs -/

theorem openPacket_valid : validPacket Config.params openPacket := ⟨rfl, rfl, rfl, rfl⟩

theorem otherThan_ne (c : Byte) : otherThan c ≠ c ∧ otherThan c ≠ 0x54#8 := by
  unfold otherThan
  split
  · rename_i h; subst h; decide
  · rename_i h; exact ⟨fun e => h e.symm, by decide⟩

/-- A candidate of the header alone, whose next byte is no version byte. -/
def headerNext : State := { running with buf := [0x54], src := [0x54] }

/-- A candidate that lacks only its checksum byte. -/
def lastByteNext : State :=
  { running with buf := packetBody frameOne, src := [crc8 Config.params (packetBody frameOne)] }

theorem headerNext_inv : headerNext.Inv := by
  refine ⟨⟨by decide, fun _ => rfl, fun h => absurd h (by decide)⟩, ⟨?_, fun _ => rfl, fun _ => rfl⟩,
    fun _ => ⟨rfl, rfl⟩⟩
  intro h
  cases h

theorem lastByteNext_inv : lastByteNext.Inv := by
  refine ⟨⟨by decide +kernel, fun _ => rfl, fun _ => rfl⟩, ⟨?_, fun _ => rfl, fun _ => rfl⟩, fun _ => ⟨rfl, rfl⟩⟩
  intro h
  cases h

theorem packetBody_length (f : Frame) : (packetBody f).length = 46 := by rfl

/-- The step that takes the checksum byte delivers the frame. -/
theorem lastByteNext_step : blockStep lastByteNext =
    .next (State.finish .frame ({ lastByteNext with src := [] }.deliver
      (decodeFrame (packetBody frameOne ++ [crc8 Config.params (packetBody frameOne)])))) := by
  simp [blockStep, readFrameStep, State.take, State.srcTake, decStep, lastByteNext, running, configured,
    State.reset, packetBody_length, pktLen_eq]

/-- The header, a byte that is none, and noise that holds the version marker. -/
theorem witness_HuntingDiscardsUntilHeader :
    running.buf = [] ∧ (0x54 : Byte) = 0x54#8 ∧ (0x2C : Byte) ≠ 0x54#8 ∧ running.busy = true ∧
      running.schedule = [] ∧ running.recurring = [] ∧ running.replay = [] ∧ (∀ b ∈ [0x00, 0x2C, 0xFF], b ≠ 0x54#8) ∧
      ({ running with src := [0x00, 0x2C, 0xFF, 0x54] } : State).src = [0x00, 0x2C, 0xFF] ++ [0x54] := by decide

theorem witness_VersionAcceptAndReject :
    ({ running with buf := [0x54] } : State).buf = [0x54#8] ∧ (0x2C : Byte) = 0x2C#8 ∧ (0x54 : Byte) ≠ 0x2C#8 := by
  decide

/-- Candidates of 2, 45 and 46 bytes, with the matching checksum byte and with another. -/
theorem witness_BodyCaptureAndChecksumCheck :
    (2 ≤ (zeroBody.take 2).length ∧ (zeroBody.take 45).length ≤ 45 ∧ 2 ≤ (zeroBody.take 45).length) ∧
      zeroBody.length = 46 ∧ crc8 Config.params zeroBody = crc8 Config.params zeroBody ∧
      crc8 Config.params zeroBody ≠ otherThan (crc8 Config.params zeroBody) :=
  ⟨by decide, rfl, rfl, (otherThan_ne _).1.symm⟩

theorem witness_FrameOutcomeWritesEveryField :
    ({ running with buf := zeroBody } : State).buf.length = 46 ∧
      crc8 Config.params ({ running with buf := zeroBody } : State).buf = crc8 Config.params zeroBody ∧
      (11 : Nat) < 12 := ⟨rfl, rfl, by decide⟩

/-- The open stream, a byte that is discarded, a header whose second byte is none, and the last byte of a packet:
one state for each way a byte step treats the bytes. -/
theorem witness_ByteStepDiscardsMinimally :
    (running.busy = true ∧ ∃ t, blockStep running = .next t ∧ t.result = .noData) ∧
      (∃ t, blockStep { running with src := [0x00] } = .next t ∧ t.busy = true ∧ t.buf = [] ∧ t.src = []) ∧
      (headerNext.Inv ∧ headerNext.busy = true ∧ headerNext.buf.head? = some 0x54#8 ∧
        ∃ t, blockStep headerNext = .next t ∧ t.result = .badVersion) ∧
      lastByteNext.Inv ∧ lastByteNext.busy = true ∧ lastByteNext.buf.length = 46 ∧
      ∃ t, blockStep lastByteNext = .next t ∧ t.result = .frame := by
  refine ⟨⟨rfl, _, rfl, rfl⟩, ⟨_, rfl, rfl, rfl, rfl⟩, ⟨headerNext_inv, rfl, rfl, _, rfl, rfl⟩, lastByteNext_inv,
    rfl, by decide +kernel, _, lastByteNext_step, rfl⟩

theorem witness_ValidPacketIsDelivered :
    ∃ s : State, s.busy = false ∧ s.cfg = .configured ∧ s.srcPresent = true ∧ s.buf = [] ∧ s.replay = [] ∧
      s.src = packetOf Config.params frameOne ++ [0x54] ∧ s.schedule = [.regWrite 0x00 (encode .readFrame)] ∧
      s.recurring = [] :=
  ⟨{ configured with
      src := packetOf Config.params frameOne ++ [0x54], schedule := [.regWrite 0x00 (encode .readFrame)] },
    rfl, rfl, rfl, rfl, rfl, rfl, rfl, rfl⟩

/-- No byte, and all but the checksum byte, of a valid packet. -/
theorem witness_PrefixOfValidPacketGivesNoFrame (n : Nat) (hn : n = 0 ∨ n = 46) :
    ∃ s : State, validPacket Config.params openPacket ∧ n < 47 ∧ s.busy = true ∧ s.schedule = [] ∧
      s.recurring = [] ∧ s.buf = [] ∧ s.replay = [] ∧ s.src = openPacket.take n :=
  ⟨{ running with src := openPacket.take n }, openPacket_valid, by omega, rfl, rfl, rfl, rfl, rfl, rfl⟩

theorem witness_SplitPacketIsCompleted (n : Nat) (hn : n = 0 ∨ n = 46) :
    ∃ s : State, validPacket Config.params openPacket ∧ n < 47 ∧ s.busy = true ∧ s.cfg = .configured ∧
      s.srcPresent = true ∧ s.buf = [] ∧ s.replay = [] ∧ s.src = openPacket.take n ∧
      s.schedule =
        List.replicate (n + 1) .block ++ [.source (openPacket.drop n), .regWrite 0x00 (encode .readFrame)] ∧
      s.recurring = [] :=
  ⟨{ running with
      src := openPacket.take n
      schedule :=
        List.replicate (n + 1) .block ++ [.source (openPacket.drop n), .regWrite 0x00 (encode .readFrame)] },
    openPacket_valid, by omega, rfl, rfl, rfl, rfl, rfl, rfl, rfl, rfl⟩

theorem witness_RejectDiscardsOnlyTheHeader :
    (running.busy = true ∧ running.schedule = [] ∧ running.recurring = [] ∧ running.buf = [] ∧
      running.replay = []) ∧
      (0x54 : Byte) ≠ 0x2C#8 ∧ (List.replicate 44 (0x54 : Byte)).length = 44 ∧
      otherThan (crc8 Config.params (0x54#8 :: 0x2C#8 :: List.replicate 44 0x54)) ≠
        crc8 Config.params (0x54#8 :: 0x2C#8 :: List.replicate 44 0x54) :=
  ⟨⟨rfl, rfl, rfl, rfl, rfl⟩, by decide, rfl, (otherThan_ne _).1⟩

theorem witness_FreshPacketAfterCorruptOne :
    ∃ (s : State) (c : Byte), s.busy = true ∧ s.cfg = .configured ∧ s.srcPresent = true ∧ s.buf = [] ∧
      s.replay = [] ∧ (List.replicate 44 (0 : Byte)).length = 44 ∧ (∀ b ∈ List.replicate 44 (0 : Byte), b ≠ 0x54#8) ∧
      c ≠ 0x54#8 ∧ c ≠ crc8 Config.params (0x54#8 :: 0x2C#8 :: List.replicate 44 0) ∧
      validPacket Config.params openPacket ∧
      s.src = 0x54#8 :: 0x2C#8 :: List.replicate 44 0 ++ c :: openPacket ∧
      s.schedule = List.replicate 47 .block ++ [.regWrite 0x00 (encode .readFrame)] ∧ s.recurring = [] :=
  ⟨{ running with
      src := 0x54#8 :: 0x2C#8 :: List.replicate 44 0 ++
        otherThan (crc8 Config.params (0x54#8 :: 0x2C#8 :: List.replicate 44 0)) :: openPacket
      schedule := List.replicate 47 .block ++ [.regWrite 0x00 (encode .readFrame)] },
    otherThan (crc8 Config.params (0x54#8 :: 0x2C#8 :: List.replicate 44 0)),
    rfl, rfl, rfl, rfl, rfl, rfl, by decide, (otherThan_ne _).2, (otherThan_ne _).1, openPacket_valid, rfl, rfl,
    rfl⟩

/-! ## Witnesses: the invariant -/

theorem reset_inv : State.reset.Inv := by
  simp [State.Inv, queuesOk, markersOk, unsetOk, busyOk, State.reset]

/-- A state in mid-candidate meets the invariant, with both queues non-empty. -/
def midCandidate : State := { running with buf := [0x54, 0x2C, 0x00], replay := [0x54, 0x2C], src := [0x01] }

theorem midCandidate_inv : midCandidate.Inv := by
  refine ⟨⟨by decide, fun _ => rfl, fun _ => rfl⟩, ⟨?_, fun _ => rfl, fun _ => rfl⟩, fun _ => ⟨rfl, rfl⟩⟩
  intro h
  cases h

theorem witness_ReadFrameEndsOnFiniteStream :
    midCandidate.Inv ∧ midCandidate.busy = true ∧ midCandidate.schedule = [] ∧ midCandidate.recurring = [] :=
  ⟨midCandidate_inv, rfl, rfl, rfl⟩

/-- Bytes that hold no header arrive over and over, with a CMD write after each; and a reset whose turn it is. -/
theorem witness_ReadFrameOnEndlessNoiseNeverEnds :
    (∃ (s : State) (noise : List Byte) (words : List Word), s.busy = true ∧ s.buf = [] ∧ s.replay = [] ∧ s.src = [] ∧
      noise ≠ [] ∧ (∀ b ∈ noise, b ≠ 0x54#8) ∧ words ≠ [] ∧ s.schedule = [] ∧
      s.recurring = .source noise :: List.replicate noise.length .block ++ words.map (.regWrite 0x00)) ∧
      (scheduled running [.reset]).nextAction = .reset :=
  ⟨⟨repeating running [.source [0x00, 0x2C], .block, .block, .regWrite 0x00 0x4#32], [0x00, 0x2C], [0x4#32],
    rfl, rfl, rfl, rfl, by decide, by decide, by decide, rfl, rfl⟩, rfl⟩

theorem witness_PollReturnsWithTheBlockIdle :
    (scheduled midCandidate [.poll]).Inv ∧ (scheduled midCandidate [.poll]).nextAction = .poll :=
  ⟨midCandidate_inv, rfl⟩

theorem witness_StepKeepsTheInvariant : midCandidate.Inv ∧ ∃ t, step midCandidate = .next t :=
  ⟨midCandidate_inv, ⟨_, rfl⟩⟩

/-- An idle block with a CMD write next, and a running one with its own turn next. -/
theorem witness_NoStateIsStuck :
    (scheduled .reset [.regWrite 0x00 0#32]).Inv ∧ (scheduled .reset [.regWrite 0x00 0#32]).busy = false ∧
      (scheduled .reset [.regWrite 0x00 0#32]).nextAction = .regWrite 0x00 0#32 ∧
      midCandidate.Inv ∧ midCandidate.busy = true ∧ midCandidate.nextAction = .block :=
  ⟨reset_inv, rfl, rfl, midCandidate_inv, rfl, rfl⟩

/-! ## Witnesses: whole-machine rules -/

/-- A turn of any agent but the reset is no reset. -/
theorem block_not_reset {s : State} (h : s.nextAction = .block) : ¬resetsNext s := by
  simp [resetsNext, h]

theorem host_not_reset {s : State} {a : Access} (h : s.nextAction = .host a) : ¬resetsNext s := by
  simp [resetsNext, h]

theorem witness_OnlyResetClearsStickyState :
    ∃ s t : State, step s = .next t ∧ ¬resetsNext s ∧ s.cfg = .configured ∧ s.cbValid = true ∧
      s.frameValid = true ∧ s.cmdOvr = true :=
  ⟨{ withCallback with frameValid := true, cmdOvr := true }, _, rfl, block_not_reset rfl, rfl, rfl, rfl, rfl⟩

/-- Each flag that rises, at its cause. -/
theorem witness_StickyFlagsAreSetOnlyByTheirCause :
    (∃ t, step (scheduled running [.regWrite 0x00 0x4#32]) = .next t ∧ running.cmdOvr = false ∧ t.cmdOvr = true) ∧
      (∃ t, step lastByteNext = .next t ∧ lastByteNext.frameValid = false ∧ t.frameValid = true) ∧
      ∃ t, step (scheduled .reset [.regWrite 0x00 (encode .registerCb)]) = .next t ∧
        State.reset.cbValid = false ∧ t.cbValid = true :=
  ⟨⟨_, rfl, rfl, rfl⟩, ⟨_, (step_quiet rfl rfl).trans lastByteNext_step, rfl, rfl⟩, ⟨_, rfl, rfl, rfl⟩⟩

theorem witness_OnlyInitDefaultsConfigures :
    ∃ t, step (scheduled .reset [.regWrite 0x00 (encode .initDefaults)]) = .next t ∧ t.cfg ≠ State.reset.cfg ∧
      ¬resetsNext (scheduled .reset [.regWrite 0x00 (encode .initDefaults)]) :=
  ⟨_, rfl, by decide, host_not_reset rfl⟩

/-- CRC_CLEAR of a nonzero accumulator; CRC_FEED of the accumulator's own value, chosen to change it whatever entry
0 of the open table is. -/
theorem witness_OnlyChecksumCommandsWriteTheAccumulator :
    (∃ s t : State, step s = .next t ∧ t.crcAcc ≠ s.crcAcc ∧ ¬resetsNext s ∧ acceptsCmd s (encode .crcClear)) ∧
      ∃ (s t : State) (b : Byte), step s = .next t ∧ t.crcAcc ≠ s.crcAcc ∧ ¬resetsNext s ∧
        acceptsCmd s (encode (.crcFeed b)) := by
  refine ⟨⟨scheduled { State.reset with crcAcc := 1 } [.regWrite 0x00 (encode .crcClear)], _, rfl, by decide,
    host_not_reset rfl, rfl, rfl⟩, ?_⟩
  set c := otherThan (Config.crcTable 0x00#8) with hc
  refine ⟨scheduled { State.reset with crcAcc := c } [.regWrite 0x00 (encode (.crcFeed c))],
    crcFeed Config.params c { State.reset with crcAcc := c }, c, ?_, ?_, host_not_reset rfl, rfl, rfl⟩
  · have hd : decode (encode (.crcFeed c)) = .ok (.crcFeed c) := by
      have : ∀ b : Byte, decode (encode (.crcFeed b)) = .ok (.crcFeed b) := by decide +kernel
      exact this c
    rw [step_cmdWrite rfl]
    unfold cmdWrite
    rw [hd]
    rfl
  · have : (crcFeed Config.params c { State.reset with crcAcc := c }).crcAcc = Config.crcTable 0x00#8 := by
      simp [crcFeed, crcStep, State.finish, Config.params]
    rw [this]
    exact (otherThan_ne _).1.symm

/-- CONFIGURE with other operands; INIT_DEFAULTS from reset, whose angle is no longer 0. -/
theorem witness_SettingsAreWrittenAsOneTriple :
    (∃ t, step (scheduled configured [.regWrite 0x00 0x2#32]) = .next t ∧ t.settings ≠ configured.settings) ∧
      (∃ t, step (scheduled .reset [.regWrite 0x00 0x1#32]) = .next t ∧ t.settings ≠ State.reset.settings) ∧
      ¬resetsNext (scheduled configured [.regWrite 0x00 0x2#32]) := by
  refine ⟨⟨_, rfl, by decide⟩, ⟨_, rfl, ?_⟩, host_not_reset rfl⟩
  intro h
  exact absurd (congrArg Settings.angle h) (by decide)

theorem witness_EventsComeFromTheControllerOnly :
    ∃ t, step (scheduled withCallback [.regWrite 0x00 0x2#32]) = .next t ∧ t.events ≠ withCallback.events := by
  refine ⟨_, rfl, ?_⟩
  intro h
  exact absurd (congrArg List.length h) (by decide)

/-- A write that changes each operand register. -/
theorem witness_OperandRegistersAreWrittenByTheHostOnly :
    (∃ t, step (scheduled .reset [.regWrite 0x08 1]) = .next t ∧ t.argSpeed ≠ State.reset.argSpeed) ∧
      (∃ t, step (scheduled .reset [.regWrite 0x0C 1]) = .next t ∧ t.argAngle ≠ State.reset.argAngle) ∧
      (∃ t, step (scheduled .reset [.regWrite 0x10 1]) = .next t ∧ t.argPwm ≠ State.reset.argPwm) ∧
      (∃ t, step (scheduled .reset [.regWrite 0x14 1]) = .next t ∧ t.argCb ≠ State.reset.argCb) ∧
      ¬resetsNext (scheduled .reset [.regWrite 0x08 1]) :=
  ⟨⟨_, rfl, by decide⟩, ⟨_, rfl, by decide⟩, ⟨_, rfl, by decide⟩, ⟨_, rfl, by decide⟩,
    host_not_reset rfl⟩

/-- `busy` rises at an acceptance and falls at an empty stream. -/
theorem witness_BusyFollowsReadFrame :
    (∃ t, step (scheduled configured [.regWrite 0x00 0x4#32]) = .next t ∧ t.busy ≠ configured.busy) ∧
      ∃ t, step running = .next t ∧ t.busy ≠ running.busy := ⟨⟨_, rfl, by decide⟩, ⟨_, rfl, by decide⟩⟩

theorem witness_ResultIsWrittenOnlyWhenACommandEnds :
    (∃ t, step (scheduled .reset [.regWrite 0x00 0#32]) = .next t ∧ t.result ≠ State.reset.result) ∧
      (∃ t, step running = .next t ∧ t.result ≠ running.result) ∧ ¬resetsNext running :=
  ⟨⟨_, rfl, by decide⟩, ⟨_, rfl, by decide⟩, block_not_reset rfl⟩

/-- The byte taken completes the packet of `frameOne`, whose speed is not 0. -/
theorem witness_FrameRegistersHoldOnlyValidPackets :
    lastByteNext.Inv ∧ ¬resetsNext lastByteNext ∧
      ∃ t, step lastByteNext = .next t ∧ t.frame ≠ lastByteNext.frame := by
  refine ⟨lastByteNext_inv, block_not_reset rfl, _, (step_quiet rfl rfl).trans lastByteNext_step, ?_⟩
  have hd : ∀ c : Byte, decodeFrame (packetBody frameOne ++ [c]) ≠ Frame.zero := by
    intro c h
    exact absurd (congrArg Frame.speed h) (by simp [decodeFrame, fieldAt, byteAt, packetBody, frameOne, le16Bytes,
      Frame.zero, le16])
  exact hd _

/-- An arrival, a byte step that takes the head, and a turn that leaves the stream. -/
theorem witness_ByteSourceIsFifo :
    ((scheduled running [.source [0x54]]).nextAction = .source [0x54] ∧
      ∃ t, step (scheduled running [.source [0x54]]) = .next t) ∧
      (byteStepNext { running with src := [0x00, 0x01] } ∧ running.replay = [] ∧
        ∃ t, step { running with src := [0x00, 0x01] } = .next t) ∧
      (∀ bs, (scheduled .reset [.poll]).nextAction ≠ .source bs) ∧ ¬byteStepNext (scheduled .reset [.poll]) ∧
      ∃ t, step (scheduled .reset [.poll]) = .next t :=
  ⟨⟨rfl, ⟨_, rfl⟩⟩, ⟨⟨rfl, rfl⟩, rfl, ⟨_, rfl⟩⟩, (fun _ h => nomatch h), (fun h => nomatch h.1), ⟨_, rfl⟩⟩

end Sys2Proof.Tests
end

section
/-! PROOFS. The host register space (20_memory.md rules R52, R53, R57, R58): refused accesses, reserved bits, ignored
writes, operand writes and CMD writes while a READ_FRAME runs. -/

namespace Sys2Proof.Machine

/-! ## Refused accesses (rule R52) -/

/-- Inside the contract an access is a read or a register write, and neither is refused. -/
theorem hostAccess_refused_iff (a : Access) (s : State) :
    (∃ r, hostAccess a s = .refused r) ↔ accessRefusal a ≠ none := by
  unfold hostAccess
  cases accessRefusal a with
  | some r => simp
  | none =>
    cases a.op with
    | read => simp
    | write v =>
      obtain ⟨t, ht⟩ := regWrite_total a.off v s
      simp [ht]

/-- Settles O7: only the host's turn can be refused, and `accessRefusal` decides it by the three conditions. -/
theorem refusedExactlyOutsideTheContract : Obligations.RefusedExactlyOutsideTheContract := by
  unfold Obligations.RefusedExactlyOutsideTheContract
  intro s act
  cases act with
  | host a =>
    have h := (hostAccess_refused_iff a s).trans accessRefusal_none.not
    simpa [agentStep] using h
  | block => simp [agentStep, blockStep_not_refused]
  | _ => simp [agentStep]

/-! ## Reserved bits and ignored writes (rule R53) -/

/-- The top field of STATUS is 21 zero bits. -/
theorem statusWord_reserved (s : State) : s.statusWord.extractLsb' 11 21 = 0 := by
  unfold State.statusWord
  simp (disch := decide) only [BitVec.extractLsb'_append_eq_of_le]
  rfl

theorem decStateWord_reserved (s : State) :
    (decStateWord s).getLsbD 7 = false ∧ (decStateWord s).extractLsb' 15 17 = 0 := by
  unfold decStateWord
  constructor
  · simp only [BitVec.getLsbD_append]
    rfl
  · simp (disch := decide) only [BitVec.extractLsb'_append_eq_of_le]
    rfl

theorem sampleWord_reserved (f : Frame) (i : Nat) : (sampleWord f i).extractLsb' 24 8 = 0 := by
  unfold sampleWord
  split
  · simp (disch := decide) only [BitVec.extractLsb'_append_eq_of_le]
    rfl
  · rfl

/-- The bits above a zero-extended field are 0. -/
theorem extractLsb'_setWidth_above {w : Nat} (v len : Nat) (x : BitVec w) :
    (x.setWidth v).extractLsb' w len = 0 := by
  ext i hi
  simp

/-- Every register but CMD and the operand registers ignores a write, and so does an unmapped offset. -/
theorem regWrite_ignored {off : Nat} (v : Word) (s : State) (h : off ∉ [0x00, 0x08, 0x0C, 0x10, 0x14]) :
    regWrite off v s = .next s := by
  rcases regWrite_cases off v s with
    ⟨rfl, -⟩ | ⟨rfl, -⟩ | ⟨rfl, -⟩ | ⟨rfl, -⟩ | ⟨rfl, -⟩ | ⟨-, -, -, -, -, hw⟩
  case inr.inr.inr.inr.inr => exact hw
  all_goals exact absurd (by decide) h

/-- A write to an operand register is read back whole. -/
theorem argWrite_read_back {off : Nat} (v : Word) (s : State) (h : off ∈ [0x08, 0x0C, 0x10, 0x14]) :
    ∃ t, agentStep (.regWrite off v) s = .next t ∧ regRead off t = v := by
  simp only [List.mem_cons, List.not_mem_nil, or_false] at h
  obtain rfl | rfl | rfl | rfl := h
  · exact ⟨_, agentStep_argSpeed v s, regRead_offset .argSpeed _⟩
  · exact ⟨_, agentStep_argAngle v s, regRead_offset .argAngle _⟩
  · exact ⟨_, agentStep_argPwm v s, regRead_offset .argPwm _⟩
  · exact ⟨_, agentStep_argCb v s, regRead_offset .argCb _⟩

/-- Every frame register holds a zero-extended field of 16 bits. -/
theorem frameRegs_reserved (s : State) :
    ∀ off ∈ [0x30, 0x34, 0x38, 0x3C], (regRead off s).extractLsb' 16 16 = 0 := by
  intro off h
  simp only [List.mem_cons, List.not_mem_nil, or_false] at h
  obtain rfl | rfl | rfl | rfl := h
  · exact regRead_offset .frSpeed s ▸ extractLsb'_setWidth_above ..
  · exact regRead_offset .frStart s ▸ extractLsb'_setWidth_above ..
  · exact regRead_offset .frEnd s ▸ extractLsb'_setWidth_above ..
  · exact regRead_offset .frTs s ▸ extractLsb'_setWidth_above ..

/-- Settles O10: the offsets by the register map, the reserved bits by the width of each register's fields. -/
theorem unmappedReadOnlyAndReservedBits : Obligations.UnmappedReadOnlyAndReservedBits := by
  unfold Obligations.UnmappedReadOnlyAndReservedBits
  intro s
  have hunmapped : ∀ off, 0x44 ≤ off → off ≤ 0x7C → off % 4 = 0 → regRead off s = 0 :=
    fun _ hlow hhigh _ => regRead_unmapped s hlow hhigh
  have hignored (off : Nat) (v : Word) (h4 : off % 4 = 0) (hl : off < 0x100)
      (h : off ∉ [0x00, 0x08, 0x0C, 0x10, 0x14]) : agentStep (.regWrite off v) s = .next s :=
    (hostAccess_write v s h4 hl).trans (regWrite_ignored v s h)
  have hstatus : (regRead 0x04 s).extractLsb' 11 21 = 0 :=
    regRead_offset .status s ▸ statusWord_reserved s
  have hcrcAcc : (regRead 0x18 s).extractLsb' 8 24 = 0 :=
    regRead_offset .crcAcc s ▸ extractLsb'_setWidth_above ..
  have hdecState : (regRead 0x40 s).getLsbD 7 = false ∧ (regRead 0x40 s).extractLsb' 15 17 = 0 :=
    regRead_offset .decState s ▸ decStateWord_reserved s
  have hsample (i : Nat) (hi : i < 32) : (regRead (0x80 + 4 * i) s).extractLsb' 24 8 = 0 :=
    regRead_offset (.sample ⟨i, hi⟩) s ▸ sampleWord_reserved s.frame i
  exact ⟨hunmapped, hignored, ⟨hstatus, hcrcAcc, hdecState.1, hdecState.2, frameRegs_reserved s, hsample⟩,
    fun _ v h => argWrite_read_back v s h⟩

/-! ## The operand registers and a running READ_FRAME (rule R58) -/

theorem blockStep_idle {s : State} (h : s.busy = false) : blockStep s = .next s := by
  simp [blockStep, h]

theorem blockStep_running {s : State} (h : s.busy = true) : blockStep s = readFrameStep Config.params s := by
  simp [blockStep, h]

/-- The state with the four operand registers replaced. -/
def State.withArgs (x a p c : Word) (s : State) : State :=
  { s with argSpeed := x, argAngle := a, argPwm := p, argCb := c }

section
variable (x a p c : Word)

@[simp] theorem State.withArgs_buf (s : State) : (s.withArgs x a p c).buf = s.buf := rfl

theorem take_withArgs_none {s : State} (h : s.take = none) : (s.withArgs x a p c).take = none := by
  have hempty : s.replay = [] ∧ s.src = [] := take_eq_none.mp h
  exact take_eq_none.mpr hempty

theorem take_withArgs_some {s s' : State} {b : Byte} (h : s.take = some (b, s')) :
    (s.withArgs x a p c).take = some (b, s'.withArgs x a p c) := by
  rcases take_eq_some h with ⟨rest, hr, rfl⟩ | ⟨hr, rest, hs, rfl⟩
  · exact take_replay hr
  · exact take_src hr hs

theorem finishEmpty_withArgs (s : State) :
    finishEmpty (s.withArgs x a p c) = (finishEmpty s).withArgs x a p c := rfl

/-- A byte step and its end neither read nor write the operand registers: the tests are on the candidate and the byte,
and each branch commutes with `withArgs`. -/
theorem endByteStep_decStep_withArgs (P : Config.Params) (b : Byte) (s : State) :
    endByteStep (decStep P b (s.withArgs x a p c)) = (endByteStep (decStep P b s)).withArgs x a p c := by
  simp only [decStep, apply_ite endByteStep, apply_ite (State.withArgs x a p c)]
  rfl

theorem readFrameStep_withArgs {P : Config.Params} {s t : State} (h : readFrameStep P s = .next t) :
    readFrameStep P (s.withArgs x a p c) = .next (t.withArgs x a p c) := by
  rcases readFrameStep_cases P s with ⟨ht, e⟩ | ⟨b, s', ht, hl, e⟩ | ⟨b, s', -, -, e⟩ <;> rw [e] at h <;> cases h
  · simp [readFrameStep, take_withArgs_none x a p c ht, finishEmpty_withArgs]
  · simp [readFrameStep, take_withArgs_some x a p c ht, hl, endByteStep_decStep_withArgs]

theorem blockStep_withArgs {s t : State} (h : blockStep s = .next t) :
    blockStep (s.withArgs x a p c) = .next (t.withArgs x a p c) := by
  cases hb : s.busy with
  | false =>
    rw [blockStep_idle hb] at h
    cases h
    exact blockStep_idle hb
  | true =>
    rw [blockStep_running hb] at h
    exact (blockStep_running (s := s.withArgs x a p c) hb).trans (readFrameStep_withArgs x a p c h)

end

/-- Settles O11: the operand writes are `agentStep_argSpeed` and its like, and the block step commutes with a
change of the operand registers. -/
theorem argWriteIsAcceptedWhileBusy : Obligations.ArgWriteIsAcceptedWhileBusy := by
  unfold Obligations.ArgWriteIsAcceptedWhileBusy
  refine ⟨fun s v => ⟨agentStep_argSpeed v s, agentStep_argAngle v s, agentStep_argPwm v s, agentStep_argCb v s⟩, ?_⟩
  intro s t x a p c h
  exact blockStep_withArgs x a p c h

/-! ## CMD writes while busy (rule R57) -/

/-- Whatever the word decodes to, the gate of CMD drops it while `busy` = 1. -/
theorem cmdWrite_busy (w : Word) {s : State} (h : s.busy = true) : cmdWrite w s = .next s.dropCmd := by
  unfold cmdWrite
  split
  · rw [exec_eq_accept, accept_busy _ _ h]
  · exact accept_busy _ _ h

/-- Settles O12: a dropped CMD write is `dropCmd`, which sets `cmd_ovr` alone. -/
theorem cmdWriteWhileBusyIsDropped : Obligations.CmdWriteWhileBusyIsDropped := by
  unfold Obligations.CmdWriteWhileBusyIsDropped
  intro s w h
  exact (agentStep_cmd w s).trans (cmdWrite_busy w h)

end Sys2Proof.Machine
end

section
/-! PROOFS. The command word (30_encoding.md rules R81, R83, R87): a word as its fields side by side, the decoder as
the inverse of the encoder, the rows by mask and match, and the illegal words. -/

namespace Sys2Proof

/-! ## A word by its fields -/

/-- A word is two fields side by side exactly when it holds each at its place. -/
theorem eq_append_iff {m n : Nat} {w : BitVec (m + n)} {hi : BitVec m} {lo : BitVec n} :
    w = hi ++ lo ↔ w.extractLsb' n m = hi ∧ w.extractLsb' 0 n = lo := by
  constructor
  · rintro rfl
    exact ⟨BitVec.extractLsb'_append_eq_left, BitVec.extractLsb'_append_eq_right⟩
  · rintro ⟨rfl, rfl⟩
    rw [BitVec.extractLsb'_append_extractLsb'_eq_extractLsb' (Nat.zero_add n).symm, BitVec.extractLsb'_eq_self]

/-- A field of a field is a field of the word. -/
theorem extractLsb'_extractLsb' {n : Nat} (w : BitVec n) {i l j k : Nat} (h : j + k ≤ l) :
    (w.extractLsb' i l).extractLsb' j k = w.extractLsb' (i + j) k := by
  ext x hx
  have hjx : j + x < l := by omega
  simp [hjx, Nat.add_assoc]

/-- `eq_append_iff` for three fields. -/
theorem eq_append_append_iff {m k n : Nat} {w : BitVec (m + k + n)} {hi : BitVec m} {mid : BitVec k}
    {lo : BitVec n} :
    w = hi ++ mid ++ lo ↔
      w.extractLsb' (n + k) m = hi ∧ w.extractLsb' n k = mid ∧ w.extractLsb' 0 n = lo := by
  rw [eq_append_iff, eq_append_iff, extractLsb'_extractLsb' w (Nat.le_of_eq (Nat.add_comm k m)),
    extractLsb'_extractLsb' w (by omega), and_assoc, Nat.add_zero]

/-- A mask that clears the middle field of a word leaves the outer two to be compared. -/
theorem and_outerMask_eq_iff {m k n : Nat} {w : BitVec (m + k + n)} {hi : BitVec m} {lo : BitVec n} :
    w &&& (BitVec.allOnes m ++ 0#k ++ BitVec.allOnes n) = hi ++ 0#k ++ lo ↔
      w.extractLsb' (n + k) m = hi ∧ w.extractLsb' 0 n = lo := by
  obtain ⟨hhi, hmid, hlo⟩ := eq_append_append_iff.mp (Eq.refl (BitVec.allOnes m ++ 0#k ++ BitVec.allOnes n))
  simp [eq_append_append_iff, BitVec.extractLsb'_and, hhi, hmid, hlo]

/-- One bit of a word as a field. -/
theorem extractLsb'_one_eq_bitField {n : Nat} {w : BitVec n} {i : Nat} {b : Bool} :
    w.extractLsb' i 1 = bitField b ↔ w.getLsbD i = b := by
  rw [BitVec.getLsbD_eq_extractLsb']
  generalize w.extractLsb' i 1 = x
  revert x b
  decide

/-! ## The words of the map (rule R81) -/

/-- The word of CONFIGURE holds A and P between its reserved bits and its opcode. -/
theorem eq_encode_configure {w : Word} {a p : Bool} :
    w = encode (.configure a p) ↔
      w.extractLsb' 10 22 = 0 ∧ w.getLsbD 9 = p ∧ w.getLsbD 8 = a ∧ opField w = 0x02#8 := by
  have hbits : w.extractLsb' 9 23 = 0#22 ++ bitField p ↔ w.extractLsb' 10 22 = 0 ∧ w.getLsbD 9 = p := by
    rw [eq_append_iff (m := 22) (n := 1), extractLsb'_extractLsb' w (by decide), extractLsb'_extractLsb' w (by decide),
      extractLsb'_one_eq_bitField]
    exact Iff.rfl
  rw [← and_assoc, ← hbits, ← extractLsb'_one_eq_bitField (i := 8)]
  exact eq_append_append_iff (m := 23) (k := 1) (n := 8)

/-- The word of CRC_FEED holds BYTE between its reserved bits and its opcode. -/
theorem eq_encode_crcFeed {w : Word} {b : Byte} :
    w = encode (.crcFeed b) ↔ w.extractLsb' 16 16 = 0 ∧ byteField w = b ∧ opField w = 0x06#8 :=
  eq_append_append_iff (m := 16) (k := 8) (n := 8)

/-- A command without operands has its opcode below 24 reserved bits. -/
theorem eq_append_opField {w : Word} {op : Byte} (hr : w.extractLsb' 8 24 = 0) (hop : opField w = op) :
    w = (0#24 ++ op : BitVec (24 + 8)) :=
  (eq_append_iff (m := 24) (n := 8)).mpr ⟨hr, hop⟩

/-- The word of CRC_FEED as rule R81 writes it. -/
theorem encode_crcFeed_eq_or (b : Byte) : encode (.crcFeed b) = 0x00000006#32 ||| (b.setWidth 32 <<< 8) := by
  have hor := BitVec.setWidth_append_append_eq_shiftLeft_setWidth_or (w''' := 32) (b := 0#16) (b' := b)
    (b'' := 0x06#8)
  rw [BitVec.or_comm]
  simpa [encode] using hor

/-! ## The decoder (rule R83) -/

@[simp] theorem ifReservedZero_eq_ok {n : Nat} {r : BitVec n} {i j : Instr} :
    ifReservedZero r i = .ok j ↔ r = 0 ∧ i = j := by
  unfold ifReservedZero
  split
  case isTrue h => simp [h]
  case isFalse h => exact ⟨nofun, fun ⟨hr, _⟩ => absurd hr h⟩

theorem ifReservedZero_isError {n : Nat} {r : BitVec n} {i : Instr} :
    (∃ e, ifReservedZero r i = .error e) ↔ r ≠ 0 := by
  unfold ifReservedZero
  split
  case isTrue h => simp [h]
  case isFalse h => exact iff_of_true ⟨_, rfl⟩ h

/-- Everything the decoder can answer, by the opcode. -/
theorem decode_cases (w : Word) :
    (opField w = 0x01#8 ∧ decode w = ifReservedZero (w.extractLsb' 8 24) .initDefaults) ∨
      (opField w = 0x02#8 ∧
        decode w = ifReservedZero (w.extractLsb' 10 22) (.configure (w.getLsbD 8) (w.getLsbD 9))) ∨
      (opField w = 0x03#8 ∧ decode w = ifReservedZero (w.extractLsb' 8 24) .registerCb) ∨
      (opField w = 0x04#8 ∧ decode w = ifReservedZero (w.extractLsb' 8 24) .readFrame) ∨
      (opField w = 0x05#8 ∧ decode w = ifReservedZero (w.extractLsb' 8 24) .crcClear) ∨
      (opField w = 0x06#8 ∧ decode w = ifReservedZero (w.extractLsb' 16 16) (.crcFeed (byteField w))) ∨
      ((opField w = 0x00#8 ∨ 0x07 ≤ (opField w).toNat) ∧ decode w = .error .reservedOp) := by
  unfold decode
  split_ifs with h1 h2 h3 h4 h5 h6
  case neg =>
    have hop : opField w = 0x00#8 ∨ 0x07 ≤ (opField w).toNat := by bv_omega
    simp [*]
  all_goals simp [*]

/-- A command decodes from its own word. -/
theorem decode_encode (i : Instr) : decode (encode i) = .ok i := by
  cases i with
  | configure a p => revert a p; decide
  | crcFeed b =>
    obtain ⟨hr, hb, hop⟩ := eq_encode_crcFeed.mp (Eq.refl (encode (.crcFeed b)))
    simp [decode, hop, hr, hb]
  | _ => rfl

/-- A word decodes to a command exactly when it is the command's word. -/
theorem decode_eq_ok_iff {w : Word} {i : Instr} : decode w = .ok i ↔ w = encode i := by
  constructor
  · intro h
    rcases decode_cases w with ⟨hop, hd⟩ | ⟨hop, hd⟩ | ⟨hop, hd⟩ | ⟨hop, hd⟩ | ⟨hop, hd⟩ | ⟨hop, hd⟩ | ⟨-, hd⟩
    case inr.inr.inr.inr.inr.inr => exact nomatch hd.symm.trans h
    all_goals obtain ⟨hr, rfl⟩ := ifReservedZero_eq_ok.mp (hd.symm.trans h)
    · exact eq_append_opField hr hop
    · exact eq_encode_configure.mpr ⟨hr, rfl, rfl, hop⟩
    · exact eq_append_opField hr hop
    · exact eq_append_opField hr hop
    · exact eq_append_opField hr hop
    · exact eq_encode_crcFeed.mpr ⟨hr, rfl, hop⟩
  · rintro rfl
    exact decode_encode i

/-! ## The rows by mask and match (rule R81) -/

/-- The row of CONFIGURE. -/
theorem decode_eq_configure_iff (w : Word) (a p : Bool) :
    decode w = .ok (.configure a p) ↔
      w &&& 0xFFFFFCFF#32 = 0x00000002#32 ∧ w.getLsbD 8 = a ∧ w.getLsbD 9 = p := by
  have hmask : w &&& 0xFFFFFCFF#32 = 0x00000002#32 ↔ w.extractLsb' 10 22 = 0 ∧ opField w = 0x02#8 :=
    and_outerMask_eq_iff (hi := 0#22) (k := 2) (lo := 0x02#8)
  rw [decode_eq_ok_iff, eq_encode_configure, hmask]
  tauto

/-- The row of CRC_FEED. -/
theorem decode_eq_crcFeed_iff (w : Word) (b : Byte) :
    decode w = .ok (.crcFeed b) ↔ w &&& 0xFFFF00FF#32 = 0x00000006#32 ∧ w.extractLsb' 8 8 = b := by
  have hmask : w &&& 0xFFFF00FF#32 = 0x00000006#32 ↔ w.extractLsb' 16 16 = 0 ∧ opField w = 0x06#8 :=
    and_outerMask_eq_iff (hi := 0#16) (k := 8) (lo := 0x06#8)
  rw [decode_eq_ok_iff, eq_encode_crcFeed, hmask, byteField]
  tauto

/-- The mask of a command without operands keeps every bit. -/
theorem decode_eq_ok_iff_fullMask (w : Word) (i : Instr) :
    decode w = .ok i ↔ w &&& 0xFFFFFFFF#32 = encode i := by
  rw [decode_eq_ok_iff, show 0xFFFFFFFF#32 = BitVec.allOnes 32 from rfl, BitVec.and_allOnes]

/-- Settles O3: each row is the word of its command, compared under the row's mask. -/
theorem wordSelectsCommandByMaskAndMatch : Obligations.WordSelectsCommandByMaskAndMatch := by
  unfold Obligations.WordSelectsCommandByMaskAndMatch
  refine ⟨fun w => ⟨?_, ?_, ?_, ?_, ?_, ?_⟩, rfl, rfl, rfl, rfl, encode_crcFeed_eq_or⟩
  · exact decode_eq_ok_iff_fullMask w .initDefaults
  · exact decode_eq_configure_iff w
  · exact decode_eq_ok_iff_fullMask w .registerCb
  · exact decode_eq_ok_iff_fullMask w .readFrame
  · exact decode_eq_ok_iff_fullMask w .crcClear
  · exact decode_eq_crcFeed_iff w

/-! ## The illegal words (rule R87) -/

/-- A word is illegal by its opcode or by a reserved bit of its opcode's row. -/
theorem decode_illegal_iff (w : Word) :
    (∃ e, decode w = .error e) ↔
      opField w = 0x00#8 ∨ 0x07 ≤ (opField w).toNat ∨
        (opField w ∈ [0x01#8, 0x03#8, 0x04#8, 0x05#8] ∧ w.extractLsb' 8 24 ≠ 0) ∨
        (opField w = 0x02#8 ∧ w.extractLsb' 10 22 ≠ 0) ∨
        (opField w = 0x06#8 ∧ w.extractLsb' 16 16 ≠ 0) := by
  rcases decode_cases w with ⟨hop, hd⟩ | ⟨hop, hd⟩ | ⟨hop, hd⟩ | ⟨hop, hd⟩ | ⟨hop, hd⟩ | ⟨hop, hd⟩ | ⟨hop, hd⟩
  case inr.inr.inr.inr.inr.inr => exact iff_of_true ⟨_, hd⟩ (hop.imp_right .inl)
  all_goals rw [hd, ifReservedZero_isError]; simp [hop]

/-- Every word that is not illegal is a command's: no hint, no no-op, no custom encoding. -/
theorem decode_illegal_iff_no_command (w : Word) : (∃ e, decode w = .error e) ↔ ∀ i : Instr, encode i ≠ w := by
  constructor
  · rintro ⟨e, he⟩ i rfl
    exact nomatch he.symm.trans (decode_encode i)
  · intro h
    cases hd : decode w with
    | error e => exact ⟨e, rfl⟩
    | ok i => exact absurd (decode_eq_ok_iff.mp hd).symm (h i)

/-- An accepted illegal word writes `result` alone. -/
theorem Machine.cmdWrite_illegal {w : Word} {e : Illegal} {s : State} (hd : decode w = .error e)
    (h : s.busy = false) : cmdWrite w s = .next { s with result := .errIllegal } := by
  unfold cmdWrite
  rw [hd, ← finish_idle _ _ h]
  exact accept_idle _ _ h

/-- Settles O4: the illegal words by the decoder's cases, the absence of a command by its agreement with the
encoder, and the effect by the gate of CMD. -/
theorem illegalWordChangesOnlyResult : Obligations.IllegalWordChangesOnlyResult := by
  unfold Obligations.IllegalWordChangesOnlyResult
  refine fun w => ⟨decode_illegal_iff w, decode_illegal_iff_no_command w, ?_⟩
  rintro s ⟨e, hd⟩ h
  exact Machine.cmdWrite_illegal hd h

end Sys2Proof
end

section
/-! PROOFS. The checksum engine (40_checksum.md rules R111, R115, R116): one step of the running checksum, `crc8` by
its last byte, and the commands CRC_CLEAR and CRC_FEED. -/

namespace Sys2Proof.Machine

/-! ## The running checksum (rule R111) -/

/-- The mask 0xFF keeps every bit of a byte. -/
theorem crcStep_eq (P : Config.Params) (c b : Byte) : crcStep P c b = P.crcTable (c ^^^ b) :=
  congrArg P.crcTable BitVec.and_allOnes

@[simp] theorem crc8_nil (P : Config.Params) : crc8 P [] = 0x00#8 := rfl

/-- The checksum of a longer list is one more step. -/
theorem crc8_append_singleton (P : Config.Params) (bs : List Byte) (b : Byte) :
    crc8 P (bs ++ [b]) = crcStep P (crc8 P bs) b :=
  List.foldl_concat ..

/-- Settles O26: the recurrence is `crc8_append_singleton`, with `crcStep` written out. -/
theorem crcRecurrence : Obligations.CrcRecurrence := by
  unfold Obligations.CrcRecurrence
  exact fun P => ⟨crc8_nil P, crc8_append_singleton P⟩

/-! ## The commands (rules R115, R116) -/

/-- An accepted command runs its effect. -/
theorem exec_idle (i : Instr) {s : State} (h : s.busy = false) : exec i s = .next (commandEffect i s) :=
  (exec_eq_accept i s).trans (accept_idle _ s h)

/-- While `busy` = 1 every command is dropped (20_memory.md rule R57). -/
theorem exec_busy (i : Instr) {s : State} (h : s.busy = true) : exec i s = .next s.dropCmd :=
  (exec_eq_accept i s).trans (accept_busy _ s h)

theorem crcClear_idle {s : State} (h : s.busy = false) :
    crcClear s = { s with crcAcc := 0x00#8, result := .done } :=
  finish_idle .done { s with crcAcc := 0x00#8 } h

theorem crcFeed_idle (P : Config.Params) (b : Byte) {s : State} (h : s.busy = false) :
    crcFeed P b s = { s with crcAcc := P.crcTable (s.crcAcc ^^^ b), result := .done } := by
  rw [← crcStep_eq]
  exact finish_idle .done { s with crcAcc := crcStep P s.crcAcc b } h

/-- Settles O15: the gate of CMD around `crcClear`. -/
theorem crcClearSetsTheSeed : Obligations.CrcClearSetsTheSeed := by
  unfold Obligations.CrcClearSetsTheSeed
  refine ⟨rfl, fun s => ⟨fun h => ?_, exec_busy .crcClear⟩⟩
  exact (exec_idle .crcClear h).trans (congrArg _ (crcClear_idle h))

/-- No command uses the upper half of its word. -/
theorem encode_upperHalf (i : Instr) : (encode i).extractLsb' 16 16 = 0 := by
  cases i with
  | configure a p => revert a p; decide
  | crcFeed b => exact (eq_encode_crcFeed.mp rfl).1
  | _ => rfl

/-- So a word with a bit of its upper half set is no command's word. -/
theorem decode_illegal_of_upperHalf {w : Word} (h : w.extractLsb' 16 16 ≠ 0) : ∃ e, decode w = .error e := by
  refine (decode_illegal_iff_no_command w).mpr ?_
  rintro i rfl
  exact h (encode_upperHalf i)

/-- Feeding the accumulator its own value looks up entry 0, which the reference table maps to 0. -/
theorem crcStep_refParams_self (c : Byte) : crcStep refParams c c = 0x00#8 := by
  rw [crcStep_eq, BitVec.xor_self]
  rfl

/-- Settles O16: the gate of CMD around `crcFeed`, the illegal words by their upper half, and the entries of the
reference table. -/
theorem crcFeedTakesOneStep : Obligations.CrcFeedTakesOneStep := by
  unfold Obligations.CrcFeedTakesOneStep
  refine ⟨encode_crcFeed_eq_or, ?_, ?_, crcStep_refParams_self, by decide⟩
  · intro s b h
    exact (exec_idle (.crcFeed b) h).trans (congrArg _ (crcFeed_idle Config.params b h))
  · intro s w hw h
    obtain ⟨e, hd⟩ := decode_illegal_of_upperHalf hw
    exact cmdWrite_illegal hd h

end Sys2Proof.Machine
end

section
/-! PROOFS. The byte step of the frame decoder (41_frame_decoder.md rules R133 to R138): an equation for each case of
the candidate, the accumulator it leaves alone, and the fields of a delivered packet. -/

namespace Sys2Proof.Machine

/-! ## The byte step, case by case (rules R133 to R138) -/

section
variable {P : Config.Params} {b : Byte} {s : State}

/-- A header starts a candidate. -/
theorem decStep_header (h : s.buf = []) : decStep P Config.hdr s = (.cont, s.capture Config.hdr) := by
  simp [decStep, h]

/-- The version marker extends the candidate. -/
theorem decStep_verlen (h : s.buf.length = 1) : decStep P Config.verlen s = (.cont, s.capture Config.verlen) := by
  simp [decStep, h]

theorem decStep_badVersion (h : s.buf.length = 1) (hb : b ≠ Config.verlen) :
    decStep P b s = (.badVersion, s.reject b) := by
  simp [decStep, h, hb]

/-- A body byte extends the candidate without inspection. -/
theorem decStep_body (hlow : 2 ≤ s.buf.length) (hhigh : s.buf.length ≤ Config.pktLen - 2) :
    decStep P b s = (.cont, s.capture b) := by
  have h0 : s.buf.length ≠ 0 := by omega
  have h1 : s.buf.length ≠ 1 := by omega
  rw [decStep, if_neg h0, if_neg h1, if_pos hhigh]

/-- With PKT_LEN − 1 bytes held the byte step is the checksum comparison. -/
theorem decStep_checksum (h : s.buf.length = Config.pktLen - 1) :
    decStep P b s =
      if crc8 P s.buf = b then (.frame, s.deliver (decodeFrame (s.buf ++ [b]))) else (.badChecksum, s.reject b) := by
  have h46 : s.buf.length = 46 := h
  simp [decStep, h46, pktLen_eq]

theorem decStep_deliver (h : s.buf.length = Config.pktLen - 1) (hb : crc8 P s.buf = b) :
    decStep P b s = (.frame, s.deliver (decodeFrame (s.buf ++ [b]))) :=
  (decStep_checksum h).trans (if_pos hb)

theorem decStep_badChecksum (h : s.buf.length = Config.pktLen - 1) (hb : crc8 P s.buf ≠ b) :
    decStep P b s = (.badChecksum, s.reject b) :=
  (decStep_checksum h).trans (if_neg hb)

end

/-! ## The version check (rules R134, R135) -/

/-- A rejected byte is the next one of the stream when the candidate holds its header alone. -/
theorem take_reject_of_singleton {s : State} {x : Byte} (b : Byte) (hs : s.buf = [x]) :
    (s.reject b).take = some (b, { s with buf := [] }) :=
  take_replay (by simp [hs])

/-- Settles O31: the two outcomes of the version check, and the rejected byte at the head of the replay queue. -/
theorem versionAcceptAndReject : Obligations.VersionAcceptAndReject := by
  unfold Obligations.VersionAcceptAndReject
  intro P s b hs
  have hlen : s.buf.length = 1 := congrArg List.length hs
  constructor
  · rintro rfl
    simpa [State.capture, hs] using decStep_verlen (P := P) hlen
  · intro hb
    refine ⟨_, _, decStep_badVersion hlen hb, ?_, take_reject_of_singleton b hs, rfl, ?_⟩
    · simp [State.reject, hs]
    · rintro rfl
      exact decStep_header rfl

/-! ## The body and the checksum (rule R137) -/

/-- The state with the host accumulator replaced. -/
def State.withCrcAcc (c : Byte) (s : State) : State := { s with crcAcc := c }

@[simp] theorem State.withCrcAcc_buf (c : Byte) (s : State) : (s.withCrcAcc c).buf = s.buf := rfl

/-- The tests of a byte step are on the candidate and the byte, and each branch keeps the accumulator. -/
theorem decStep_withCrcAcc (P : Config.Params) (b c : Byte) (s : State) :
    decStep P b (s.withCrcAcc c) = ((decStep P b s).1, (decStep P b s).2.withCrcAcc c) := by
  unfold decStep
  rw [State.withCrcAcc_buf]
  split_ifs <;> rfl

/-- Settles O32: one equation of the byte step for each clause. -/
theorem bodyCaptureAndChecksumCheck : Obligations.BodyCaptureAndChecksumCheck := by
  unfold Obligations.BodyCaptureAndChecksumCheck
  intro P s b
  refine ⟨decStep_body, ?_, ?_, fun c => decStep_withCrcAcc P b c s⟩
  · intro hlen hb
    exact congrArg Prod.fst (decStep_deliver hlen hb)
  · intro hlen hb
    exact ⟨decStep_badChecksum hlen hb, by simp [hlen]⟩

/-! ## The fields of a delivered packet (rules R86, R138) -/

/-- A field is its two bytes, the low one first. -/
theorem fieldAt_toNat (p : List Byte) (i : Nat) :
    (fieldAt p i).toNat = (p.getD i 0).toNat + 256 * (p.getD (i + 1) 0).toNat :=
  le16_toNat _ _

theorem decodeFrame_dist (p : List Byte) {i : Nat} (h : i < Config.N) :
    (decodeFrame p).dist[i] = fieldAt p (6 + 3 * i) :=
  Vector.getElem_ofFn h

theorem decodeFrame_conf (p : List Byte) {i : Nat} (h : i < Config.N) :
    (decodeFrame p).conf[i] = p.getD (8 + 3 * i) 0 :=
  Vector.getElem_ofFn h

/-- The distance of a sample lies at offsets 6 + 3·i and 7 + 3·i. -/
theorem decodeFrame_dist_toNat (p : List Byte) {i : Nat} (h : i < Config.N) :
    (decodeFrame p).dist[i].toNat = (p.getD (6 + 3 * i) 0).toNat + 256 * (p.getD (7 + 3 * i) 0).toNat := by
  have hoff : 6 + 3 * i + 1 = 7 + 3 * i := by omega
  rw [decodeFrame_dist p h, fieldAt_toNat, hoff]

/-- Settles O33: the frame delivered is `decodeFrame` of the packet, field by field. -/
theorem frameOutcomeWritesEveryField : Obligations.FrameOutcomeWritesEveryField := by
  unfold Obligations.FrameOutcomeWritesEveryField
  rintro P s b p hlen hb rfl
  exact ⟨_, decStep_deliver hlen hb, fieldAt_toNat _ 2, fieldAt_toNat _ 4,
    fun _ hi => ⟨decodeFrame_dist_toNat _ hi, decodeFrame_conf _ hi⟩, fieldAt_toNat _ 42, fieldAt_toNat _ 44⟩

end Sys2Proof.Machine
end

section
/-! PROOFS. The scan controller (42_scan_control.md rules R171 to R177): the exact effect of INIT_DEFAULTS, CONFIGURE and
REGISTER_CB, the event of a CONFIGURE, and the callback slot, which only a reset clears. -/

namespace Sys2Proof.Machine

/-! ## The commands (rules R171, R174, R177) -/

/-- A controller command that runs ends with the notification and `result` DONE. -/
theorem notify_finish_idle (P : Config.Params) {s : State} (h : s.busy = false) :
    (s.notify P).finish .done =
      { s with events := s.events ++ (if s.cbValid then [pwmEvent P s] else []), result := .done } := by
  rw [notify_eq]
  exact finish_idle _ _ h

section
variable {P : Config.Params} {a p : Bool} {s : State} (h : s.busy = false)
include h

theorem initDefaults_idle_configured (hc : s.cfg = .configured) :
    initDefaults P s = { s with result := .errReinit } :=
  (initDefaults_configured P s hc).trans (finish_idle _ s h)

theorem initDefaults_idle_unconfigured (hc : s.cfg = .unconfigured) :
    initDefaults P s =
      { s with
        settings := defaultSettings P
        cfg := .configured
        events := s.events ++ if s.cbValid then [pwmEvent P (s.storeSettings (defaultSettings P))] else []
        result := .done } :=
  (initDefaults_unconfigured P s hc).trans (notify_finish_idle P h)

theorem configure_idle_unconfigured (hc : s.cfg = .unconfigured) :
    configure P a p s = { s with result := .errNotInit } :=
  (configure_unconfigured P a p s hc).trans (finish_idle _ s h)

theorem configure_idle_configured (hc : s.cfg = .configured) :
    configure P a p s =
      { s with
        settings := configureOperands a p s
        events := s.events ++ if s.cbValid then [pwmEvent P (s.storeSettings (configureOperands a p s))] else []
        result := .done } :=
  (configure_configured P a p s hc).trans (notify_finish_idle P h)

theorem registerCb_idle :
    registerCb s = { s with cbValid := true, cbHandle := s.argCb, result := .done } :=
  finish_idle .done (s.storeHandle s.argCb) h

end

/-- Settles O17: the gate of CMD around `initDefaults`. -/
theorem initDefaultsLoadsThePowerOnSettings : Obligations.InitDefaultsLoadsThePowerOnSettings := by
  unfold Obligations.InitDefaultsLoadsThePowerOnSettings
  refine ⟨rfl, fun s => ⟨fun h hc => ?_, fun h hc => ?_, exec_busy .initDefaults⟩⟩
  · exact (exec_idle .initDefaults h).trans (congrArg _ (initDefaults_idle_configured h hc))
  · exact (exec_idle .initDefaults h).trans (congrArg _ (initDefaults_idle_unconfigured h hc))

/-- Settles O18: the four words, and the gate of CMD around `configure`. -/
theorem configureReplacesTheSettings : Obligations.ConfigureReplacesTheSettings := by
  unfold Obligations.ConfigureReplacesTheSettings
  refine ⟨by decide, fun s a p h => ⟨fun hc => ?_, ?_⟩⟩
  · exact (exec_idle (.configure a p) h).trans (congrArg _ (configure_idle_unconfigured h hc))
  · rintro hc _ _ rfl rfl
    exact (exec_idle (.configure a p) h).trans (congrArg _ (configure_idle_configured h hc))

/-! ## The event of a CONFIGURE (rule R175) -/

@[simp] theorem configure_cbHandle (P : Config.Params) (a p : Bool) (s : State) :
    (configure P a p s).cbHandle = s.cbHandle := by
  cases hc : s.cfg with
  | unconfigured => simp [configure_unconfigured P a p s hc]
  | configured => simp [configure_configured P a p s hc]

/-- A CONFIGURE that runs appends the record of the state it leaves, or nothing. -/
theorem configure_events (P : Config.Params) (a p : Bool) {s : State} (hc : s.cfg = .configured) :
    (configure P a p s).events =
      s.events ++ if s.cbValid then [pwmEvent P (configure P a p s)] else [] := by
  rw [configure_configured P a p s hc, notify_eq]
  rfl

/-- Settles O19: `configure_events`, with the record written out. -/
theorem configureEmitsExactlyOnce : Obligations.ConfigureEmitsExactlyOnce := by
  unfold Obligations.ConfigureEmitsExactlyOnce
  intro s t a p h ht
  have hrun : exec (.configure a p) s = .next (configure Config.params a p s) := exec_idle (.configure a p) h
  cases hrun.symm.trans ht
  refine ⟨fun hc hv => ?_, fun hc hv => ?_, fun hc => ?_⟩
  · rw [configure_events _ a p hc, if_pos hv, ← configure_cbHandle Config.params a p s]
    rfl
  · simp [configure_events _ a p hc, hv]
  · simp [configure_unconfigured _ a p s hc]

/-! ## The callback slot (rule R177) -/

@[simp] theorem initDefaults_cbValid (P : Config.Params) (s : State) : (initDefaults P s).cbValid = s.cbValid := by
  cases hc : s.cfg with
  | unconfigured => simp [initDefaults_unconfigured P s hc]
  | configured => simp [initDefaults_configured P s hc]

@[simp] theorem configure_cbValid (P : Config.Params) (a p : Bool) (s : State) :
    (configure P a p s).cbValid = s.cbValid := by
  cases hc : s.cfg with
  | unconfigured => simp [configure_unconfigured P a p s hc]
  | configured => simp [configure_configured P a p s hc]

@[simp] theorem startReadFrame_cbValid (s : State) : (startReadFrame s).cbValid = s.cbValid := by
  rcases startReadFrame_cases s with ⟨-, e⟩ | ⟨-, -, e⟩ | ⟨-, -, e⟩ <;> simp [e]

/-- REGISTER_CB alone writes `cb_valid`. -/
theorem commandEffect_cbValid {i : Instr} (h : i ≠ .registerCb) (s : State) :
    (commandEffect i s).cbValid = s.cbValid := by
  cases i with
  | registerCb => exact absurd rfl h
  | initDefaults => exact initDefaults_cbValid _ s
  | configure a p => exact configure_cbValid _ a p s
  | readFrame => exact startReadFrame_cbValid s
  | crcClear => rfl
  | crcFeed b => rfl

/-- So no command clears it. -/
theorem commandEffect_keeps_callback (i : Instr) {s : State} (hv : s.cbValid = true) :
    (commandEffect i s).cbValid = true := by
  by_cases h : i = .registerCb
  · subst h
    rfl
  · exact (commandEffect_cbValid h s).trans hv

/-- A CMD write clears no callback, dropped, illegal or run. -/
theorem cmdWrite_keeps_callback {w : Word} {s t : State} (h : cmdWrite w s = .next t) (hv : s.cbValid = true) :
    t.cbValid = true := by
  rcases cmdWrite_next h with ⟨-, rfl⟩ | ⟨-, -, rfl⟩ | ⟨-, i, -, rfl⟩
  · exact hv
  · exact hv
  · exact commandEffect_keeps_callback i hv

@[simp] theorem endByteStep_cbValid (o : DecOutcome) (s : State) : (endByteStep (o, s)).cbValid = s.cbValid := by
  cases o <;> rfl

theorem take_cbValid {s s' : State} {b : Byte} (h : s.take = some (b, s')) : s'.cbValid = s.cbValid := by
  rcases take_eq_some h with ⟨_, _, rfl⟩ | ⟨_, _, _, rfl⟩ <;> rfl

theorem decStep_cbValid (P : Config.Params) (b : Byte) (s : State) : (decStep P b s).2.cbValid = s.cbValid := by
  obtain ⟨-, -, hv, -⟩ := decStep_frame P b s
  exact hv

/-- The block's own step leaves the callback slot alone. -/
theorem blockStep_cbValid {s t : State} (h : blockStep s = .next t) : t.cbValid = s.cbValid := by
  rcases blockStep_next h with ⟨-, rfl⟩ | ⟨-, -, rfl⟩ | ⟨-, b, s', ht, -, rfl⟩
  · rfl
  · rfl
  · calc (endByteStep (decStep Config.params b s')).cbValid
        = (decStep Config.params b s').2.cbValid := endByteStep_cbValid ..
      _ = s'.cbValid := decStep_cbValid ..
      _ = s.cbValid := take_cbValid ht

@[simp] theorem hostPoll_cbValid (s : State) : (hostPoll s).cbValid = s.cbValid := by
  unfold hostPoll
  split <;> rfl

/-- No step but a reset clears the callback slot. -/
theorem step_keeps_callback {s t : State} (h : step s = .next t) (hr : s.nextAction ≠ .reset)
    (hv : s.cbValid = true) : t.cbValid = true := by
  rcases step_next h with ⟨w, -, hw⟩ | ⟨v, -, rfl⟩ | ⟨v, -, rfl⟩ | ⟨v, -, rfl⟩ | ⟨v, -, rfl⟩ | ⟨off, v, -, rfl⟩ |
    ⟨off, -, rfl⟩ | ⟨-, rfl⟩ | ⟨bs, -, rfl⟩ | ⟨hreset, -⟩ | ⟨-, hb⟩
  case inl => exact cmdWrite_keeps_callback hw hv
  case inr.inr.inr.inr.inr.inr.inr.inr.inr.inl => exact absurd hreset hr
  case inr.inr.inr.inr.inr.inr.inr.inr.inr.inr => exact (blockStep_cbValid hb).trans hv
  all_goals simpa using hv

/-- An agent's step is the machine's step once the agent's turn is scheduled first. -/
theorem agentStep_eq_step (act : Action) (s : State) :
    agentStep act s = step { s with schedule := act :: s.schedule } := by
  rw [step_cons rfl, endTurn_of_cons rfl]

/-- Settles O20: `registerCb` behind the gate of CMD, and `step_keeps_callback` for the agent whose turn comes first. -/
theorem registerCbFillsTheSlot : Obligations.RegisterCbFillsTheSlot := by
  unfold Obligations.RegisterCbFillsTheSlot
  refine ⟨rfl, fun s h => ?_, fun s t act h hact hv => ?_⟩
  · exact (exec_idle .registerCb h).trans (congrArg _ (registerCb_idle h))
  · rw [agentStep_eq_step] at h
    have hturn : ({ s with schedule := act :: s.schedule } : State).nextAction = act := nextAction_of_cons rfl
    exact step_keeps_callback h (hturn ▸ hact) hv

end Sys2Proof.Machine
end

section
/-! PROOFS. Errors and their priority (60_exceptions.md rules R204, R205): the error check of each command's acceptance,
what a command does with and without an error, and the ends of a running READ_FRAME. -/

namespace Sys2Proof.Machine

/-! ## The error check of the acceptance step (rule R205, conditions 3 and 4) -/

/-- The error of a legal command whose CMD write is not dropped, the first in rule R205's order; `none` when the
command runs. `commandEffect_of_error` and `commandEffect_of_no_error` tie it to the model. -/
def commandError (i : Instr) (s : State) : Option ResultCode :=
  match i with
  | .initDefaults => if s.cfg = .configured then some .errReinit else none
  | .configure _ _ => if s.cfg = .unconfigured then some .errNotInit else none
  | .readFrame =>
    if s.cfg = .unconfigured then some .errNotInit else if s.srcPresent = false then some .errNoSource else none
  | .registerCb | .crcClear | .crcFeed _ => none

section
variable {i : Instr} {s : State}

/-- An error is `finish` with its code: no partial effect (rule R202). -/
theorem commandEffect_of_error {c : ResultCode} (h : commandError i s = some c) : commandEffect i s = s.finish c := by
  cases i with
  | initDefaults =>
    obtain ⟨hc, rfl⟩ : s.cfg = .configured ∧ .errReinit = c := by simpa [commandError] using h
    exact initDefaults_configured _ s hc
  | configure a p =>
    obtain ⟨hc, rfl⟩ : s.cfg = .unconfigured ∧ .errNotInit = c := by simpa [commandError] using h
    exact configure_unconfigured _ a p s hc
  | readFrame =>
    rcases startReadFrame_cases s with ⟨hc, e⟩ | ⟨hc, hp, e⟩ | ⟨hc, hp, -⟩
    · obtain rfl : .errNotInit = c := by simpa [commandError, hc] using h
      exact e
    · obtain rfl : .errNoSource = c := by simpa [commandError, hc, hp] using h
      exact e
    · simp [commandError, hc, hp] at h
  | registerCb | crcClear | crcFeed => cases h

/-- Every code it gives is a programmer error (rule R201). -/
theorem commandError_isError {c : ResultCode} (h : commandError i s = some c) : c.isError = true := by
  cases i <;> grind [commandError, ResultCode.isError]

theorem commandError_readFrame_eq_none :
    commandError .readFrame s = none ↔ s.cfg = .configured ∧ s.srcPresent = true := by
  cases hc : s.cfg <;> simp [commandError, hc]

theorem startReadFrame_starts (hc : s.cfg = .configured) (hp : s.srcPresent = true) :
    startReadFrame s = { s with busy := true } := by
  simp [startReadFrame, hc, hp]

/-- A command without an error runs: READ_FRAME starts and takes no byte yet, every other command completes in this
step (rule R204). -/
theorem commandEffect_of_no_error (h : commandError i s = none) :
    (i = .readFrame ∧ commandEffect i s = { s with busy := true }) ∨
      (i ≠ .readFrame ∧ ∃ u : State, commandEffect i s = u.finish .done) := by
  cases i with
  | readFrame =>
    obtain ⟨hc, hp⟩ := commandError_readFrame_eq_none.mp h
    exact .inl ⟨rfl, startReadFrame_starts hc hp⟩
  | initDefaults =>
    cases hc : s.cfg with
    | unconfigured => exact .inr ⟨nofun, _, initDefaults_unconfigured _ s hc⟩
    | configured => simp [commandError, hc] at h
  | configure a p =>
    cases hc : s.cfg with
    | unconfigured => simp [commandError, hc] at h
    | configured => exact .inr ⟨nofun, _, configure_configured _ a p s hc⟩
  | registerCb | crcClear | crcFeed => exact .inr ⟨nofun, _, rfl⟩

/-- The conditions 3 and 4 of rule R205, each ruled out: two on the controller's state, one on the byte source. -/
theorem commandError_eq_none_iff :
    commandError i s = none ↔
      ¬((i = .readFrame ∨ ∃ a p, i = .configure a p) ∧ s.cfg = .unconfigured) ∧
        ¬(i = .initDefaults ∧ s.cfg = .configured) ∧ ¬(i = .readFrame ∧ s.srcPresent = false) := by
  cases i with
  | readFrame => cases hc : s.cfg <;> simp [commandError, hc]
  | initDefaults | configure | registerCb | crcClear | crcFeed => simp [commandError]

end

/-- Settles O22: with an error the command ends at once; without one READ_FRAME alone stays busy. -/
theorem commandsCompleteInTheirAcceptanceStep : Obligations.CommandsCompleteInTheirAcceptanceStep := by
  unfold Obligations.CommandsCompleteInTheirAcceptanceStep
  intro s i h
  refine ⟨commandEffect i s, exec_idle i h, ?_⟩
  cases hc : commandError i s with
  | some c =>
    have herr : c.isError = true := commandError_isError hc
    rw [commandEffect_of_error hc]
    refine ⟨fun _ => ⟨rfl, ?_⟩, ?_⟩
    · rintro rfl
      cases herr
    · rintro rfl
      exact ⟨by simp [← commandError_readFrame_eq_none, hc], fun _ => herr⟩
  | none =>
    rcases commandEffect_of_no_error hc with ⟨rfl, e⟩ | ⟨hi, u, e⟩ <;> rw [e]
    · simp [commandError_readFrame_eq_none.mp hc]
    · simp [hi]

/-! ## A CMD write by rule R205's order -/

section
variable {w : Word} {i : Instr} {s : State} (hd : decode w = .ok i) (h : s.busy = false)
include hd h

/-- The CMD write of a command's word runs the command's effect. -/
theorem cmdWrite_legal : cmdWrite w s = .next (commandEffect i s) := by
  rw [cmdWrite, hd]
  exact exec_idle i h

/-- The CMD write of a command with an error writes `result` alone. -/
theorem cmdWrite_of_error {c : ResultCode} (hc : commandError i s = some c) :
    cmdWrite w s = .next { s with result := c } := by
  rw [cmdWrite_legal hd h, commandEffect_of_error hc, finish_idle c s h]

/-- The CMD write of a command without an error starts READ_FRAME or completes with DONE. -/
theorem cmdWrite_of_no_error (hc : commandError i s = none) :
    ∃ t, cmdWrite w s = .next t ∧
      ((i = .readFrame ∧ t.busy = true) ∨ (i ≠ .readFrame ∧ t.busy = false ∧ t.result = .done)) := by
  refine ⟨commandEffect i s, cmdWrite_legal hd h, ?_⟩
  rcases commandEffect_of_no_error hc with ⟨hi, e⟩ | ⟨hi, u, e⟩ <;> rw [e]
  · exact .inl ⟨hi, rfl⟩
  · exact .inr ⟨hi, rfl, rfl⟩

end

/-! ## The step of a running READ_FRAME (rule R205, last paragraph) -/

/-- The empty stream is tested before a byte is taken. -/
theorem blockStep_empty {s : State} (h : s.busy = true) (hr : s.replay = []) (hs : s.src = []) :
    blockStep s = .next (finishEmpty s) := by
  rw [blockStep_running h, readFrameStep, take_eq_none.mpr ⟨hr, hs⟩]

/-- The outcome of a byte step goes on or ends the command with its one code. -/
theorem endByteStep_cases (p : DecOutcome × State) :
    endByteStep p = p.2 ∨
      ∃ c ∈ [ResultCode.frame, .badVersion, .badChecksum], endByteStep p = p.2.finish c := by
  obtain ⟨o, u⟩ := p
  cases o with
  | cont => exact .inl rfl
  | frame | badVersion | badChecksum => exact .inr ⟨_, by decide, rfl⟩

theorem take_busy {s s' : State} {b : Byte} (h : s.take = some (b, s')) : s'.busy = s.busy := by
  rcases take_eq_some h with ⟨_, _, rfl⟩ | ⟨_, _, _, rfl⟩ <;> rfl

theorem take_result {s s' : State} {b : Byte} (h : s.take = some (b, s')) : s'.result = s.result := by
  rcases take_eq_some h with ⟨_, _, rfl⟩ | ⟨_, _, _, rfl⟩ <;> rfl

/-- A step that finds a byte goes on, or ends with that byte's outcome. -/
theorem blockStep_nonempty {s t : State} (h : s.busy = true) (hne : ¬(s.replay = [] ∧ s.src = []))
    (ht : blockStep s = .next t) :
    (t.busy = true ∧ t.result = s.result) ∨
      (t.busy = false ∧ t.result ∈ [ResultCode.frame, .badVersion, .badChecksum]) := by
  rcases blockStep_next ht with ⟨hidle, -⟩ | ⟨-, hnone, -⟩ | ⟨-, b, s', htake, -, rfl⟩
  · exact absurd (hidle.symm.trans h) nofun
  · exact absurd (take_eq_none.mp hnone) hne
  · rcases endByteStep_cases (decStep Config.params b s') with e | ⟨c, hmem, e⟩ <;> rw [e]
    · obtain ⟨-, -, -, -, -, -, -, -, -, hbusy, hresult, -⟩ := decStep_frame Config.params b s'
      exact .inl ⟨hbusy.trans ((take_busy htake).trans h), hresult.trans (take_result htake)⟩
    · exact .inr ⟨rfl, hmem⟩

/-- Settles O13: the gate of CMD and the decoder decide first, then `commandError`, and a running READ_FRAME tests the
stream before it takes a byte. -/
theorem cmdWritePriority : Obligations.CmdWritePriority := by
  unfold Obligations.CmdWritePriority
  refine ⟨fun s w => ⟨cmdWrite_busy w, ?_, fun i h hd => ⟨?_, ?_, ?_, ?_⟩⟩,
    fun s h => ⟨blockStep_empty h, fun t => blockStep_nonempty h⟩⟩
  · rintro h ⟨e, hd⟩
    exact cmdWrite_illegal hd h
  · rintro (rfl | ⟨a, p, rfl⟩) hc <;> exact cmdWrite_of_error hd h (if_pos hc)
  · rintro rfl hc
    exact cmdWrite_of_error hd h (if_pos hc)
  · intro hi hc hp
    subst hi
    exact cmdWrite_of_error hd h (by simp [commandError, hc, hp])
  · intro hcfg hreinit hsrc
    exact cmdWrite_of_no_error hd h (commandError_eq_none_iff.mpr ⟨hcfg, hreinit, hsrc⟩)

end Sys2Proof.Machine
end

section
/-! PROOFS. Hardware reset (70_reset_and_hazards.md rule R230): the reset column of rule R22, read through the
`hardReset` laws of `Sys2Proof/Laws/State.lean`. -/

namespace Sys2Proof.Machine

@[simp] theorem agentStep_reset (s : State) : agentStep .reset s = .next s.hardReset := rfl

theorem Frame.zero_dist_getElem {i : Nat} (h : i < Config.N) : Frame.zero.dist[i] = 0 :=
  Vector.getElem_ofFn h

theorem Frame.zero_conf_getElem {i : Nat} (h : i < Config.N) : Frame.zero.conf[i] = 0 :=
  Vector.getElem_ofFn h

/-- The frame registers of the reset column of rule R22, the twelve points included. -/
theorem State.reset_frame_registers :
    State.reset.frame.speed = 0 ∧ State.reset.frame.startAngle = 0 ∧ State.reset.frame.endAngle = 0 ∧
      State.reset.frame.timestamp = 0 ∧
      ∀ (i : Nat) (h : i < 12), State.reset.frame.dist[i] = 0 ∧ State.reset.frame.conf[i] = 0 :=
  ⟨rfl, rfl, rfl, rfl, fun _ h => ⟨Frame.zero_dist_getElem h, Frame.zero_conf_getElem h⟩⟩

/-- Settles O47: the block's fields are those of `State.reset`, the environment's those of the state before. -/
theorem hardwareResetClearsTheBlock : Obligations.HardwareResetClearsTheBlock := by
  unfold Obligations.HardwareResetClearsTheBlock
  intro s
  refine ⟨s.hardReset, agentStep_reset s, rfl, rfl, rfl, rfl, rfl, rfl, rfl, rfl, rfl, rfl, rfl, ?frame,
    rfl, rfl, rfl, rfl, State.hardReset_src s, State.hardReset_srcPresent s, State.hardReset_events s⟩
  case frame => exact State.hardReset_frame s ▸ State.reset_frame_registers

end Sys2Proof.Machine
end

section
/-! PROOFS. The tables of the spec (30_encoding.md sections 1 and 3), the turn of a CMD write and of a read, the
register map (20_memory.md section 3) and the register window (section 6). -/

namespace Sys2Proof.Machine

/-! ## Words and codes (rules R81, R87, R88) -/

/-- Settles O1: `decode_encode`, and `decode_eq_ok_iff` for a word that decodes. -/
theorem decodeEncodeAgree : Obligations.DecodeEncodeAgree := by
  unfold Obligations.DecodeEncodeAgree
  exact ⟨fun i _ => decode_encode i, fun _ _ h => (decode_eq_ok_iff.mp h).symm⟩

/-- Settles O2: each word is its command's word, or has a reserved bit or a reserved opcode. -/
theorem wordsOfTheTableDecode : Obligations.WordsOfTheTableDecode :=
  ⟨decode_encode .initDefaults, decode_encode (.configure true true), decode_encode (.configure true false),
    decode_encode .registerCb, decode_encode .readFrame, decode_encode .crcClear,
    decode_encode (.crcFeed 0xFF), rfl, rfl⟩

/-- Settles O5: the codes by their definition, the reserved ones by the cases of the type. -/
theorem resultCodesAreThoseOfTheTable : Obligations.ResultCodesAreThoseOfTheTable := by
  unfold Obligations.ResultCodesAreThoseOfTheTable
  refine ⟨rfl, rfl, rfl, rfl, rfl, rfl, rfl, rfl, rfl, rfl, rfl, fun c => ?_⟩
  cases c <;> decide

/-! ## Turns (20_memory.md rules R54, R56) -/

/-- The turn of a CMD write whose word decodes runs the command. -/
theorem step_command {s : State} {w : Word} {i : Instr} (hturn : s.nextAction = .regWrite 0x00 w)
    (hd : decode w = .ok i) : step s = exec i s.endTurn := by
  rw [step_cmdWrite hturn, cmdWrite, hd]

/-- The turn of a CMD write whose word is illegal. -/
theorem step_illegal {s : State} {w : Word} {e : Illegal} (hturn : s.nextAction = .regWrite 0x00 w)
    (hd : decode w = .error e) :
    step s = if s.busy then .next { s.endTurn with cmdOvr := true }
      else .next { s.endTurn with result := .errIllegal } := by
  rw [step_cmdWrite hturn]
  cases hb : s.busy with
  | true => exact cmdWrite_busy w (s := s.endTurn) hb
  | false => exact cmdWrite_illegal (s := s.endTurn) hd hb

/-- The state that `withFetchWord` makes runs the command of its word. -/
theorem step_withFetchWord_encode (s : State) (i : Instr) : step (s.withFetchWord 32 (encode i).toNat) = exec i s := by
  have hword : BitVec.ofNat 32 ((encode i).toNat % 2 ^ 32) = encode i := by
    rw [Nat.mod_eq_of_lt (encode i).isLt, BitVec.ofNat_toNat, BitVec.setWidth_eq]
  have hschedule : (s.withFetchWord 32 (encode i).toNat).schedule = .regWrite 0x00 (encode i) :: s.schedule := by
    rw [State.withFetchWord, hword]
    rfl
  rw [step_command (nextAction_of_cons hschedule) (decode_encode i), endTurn_of_cons hschedule]
  rfl

/-- With the schedule used up the first recurring turn is next and the others become the schedule. -/
theorem turn_of_recurring {s : State} {a : Action} {rest : List Action} (h : s.schedule = [])
    (hr : s.recurring = a :: rest) : s.nextAction = a ∧ s.endTurn = { s with schedule := rest } := by
  simp [State.nextAction, State.endTurn, State.pending_of_nil h, hr]

/-- Settles O6: the two kinds of word, the fetch, and the three ways a turn is taken. -/
theorem stepRunsTheDecodedCommand : Obligations.StepRunsTheDecodedCommand := by
  unfold Obligations.StepRunsTheDecodedCommand
  refine ⟨fun _ _ _ hturn hd _ => step_command hturn hd, fun _ _ _ => step_illegal,
    fun s i _ => step_withFetchWord_encode s i, fun s a rest => ⟨fun h => ?_, turn_of_recurring, fun h hr => ?_⟩⟩
  · exact ⟨nextAction_of_cons h, endTurn_of_cons h⟩
  · exact ⟨nextAction_quiet h hr, endTurn_quiet h hr⟩

/-- Settles O8: the value read does not depend on the coming turns. -/
theorem regReadChangesNothing : Obligations.RegReadChangesNothing := by
  unfold Obligations.RegReadChangesNothing
  intro s off hturn h4 hl
  have hvalue : regRead off s.endTurn = regRead off s := by
    unfold regRead
    cases regAt off with
    | none => rfl
    | some r => cases r <;> rfl
  rw [step_regRead hturn h4 hl, State.recordRead, hvalue]
  rfl

/-- Settles O14: BASE is a multiple of 256, and an offset of the window is an aligned word below 256. -/
theorem busWindowIsTwoHundredFiftySixBytes : Obligations.BusWindowIsTwoHundredFiftySixBytes := by
  unfold Obligations.BusWindowIsTwoHundredFiftySixBytes
  refine ⟨Nat.mul_mod_right 256 _, fun a h => ?_, fun a b h => Nat.add_left_cancel h⟩
  simp only [Access.wellFormed, Access.movesWord, Access.aligned, Access.inWindow, Bool.and_eq_true, beq_iff_eq,
    decide_eq_true_eq] at h
  obtain ⟨⟨-, h4⟩, hl⟩ := h
  simp only [Access.busAddr, Config.base]
  omega

/-- Settles O21: `startReadFrame` behind the gate of CMD. -/
theorem readFrameAcceptance : Obligations.ReadFrameAcceptance := by
  unfold Obligations.ReadFrameAcceptance
  refine ⟨rfl, fun s h => ⟨fun hc => ?_, fun hc hp => ?_, fun hc hp => ?_⟩⟩ <;> rw [exec_idle .readFrame h]
  · rw [commandEffect_of_error (c := .errNotInit) (by simp [commandError, hc]), finish_idle _ s h]
  · rw [commandEffect_of_error (c := .errNoSource) (by simp [commandError, hc, hp]), finish_idle _ s h]
  · rw [commandEffect, startReadFrame_starts hc hp]

/-! ## The register map (rule R55) -/

/-- The fields of STATUS, each at its bits. -/
theorem statusWord_fields (s : State) :
    s.statusWord.extractLsb' 0 4 = s.result.code ∧ s.statusWord.getLsbD 4 = s.busy ∧
      s.statusWord.getLsbD 5 = s.configured ∧ s.statusWord.getLsbD 6 = s.cbValid ∧
      s.statusWord.getLsbD 7 = s.frameValid ∧ s.statusWord.getLsbD 8 = s.cmdOvr ∧
      s.statusWord.getLsbD 9 = s.srcPresent ∧ s.statusWord.getLsbD 10 = (s.srcPresent && s.srcAvail) := by
  unfold State.statusWord
  refine ⟨BitVec.extractLsb'_append_eq_right, ?_⟩
  simp only [BitVec.getLsbD_append, flag]
  simp

/-- The two lengths of DEC_STATE. -/
theorem decStateWord_fields (s : State) :
    (decStateWord s).extractLsb' 0 7 = BitVec.ofNat 7 s.buf.length ∧
      (decStateWord s).extractLsb' 8 7 = BitVec.ofNat 7 s.replay.length := by
  unfold decStateWord
  refine ⟨BitVec.extractLsb'_append_eq_right, ?_⟩
  simp (disch := decide) only [BitVec.extractLsb'_append_eq_of_le]
  exact BitVec.extractLsb'_append_eq_right

/-- A sample register holds its distance and its confidence. -/
theorem sampleWord_fields (f : Frame) {i : Nat} (h : i < 12) :
    (sampleWord f i).extractLsb' 0 16 = f.dist[i] ∧ (sampleWord f i).extractLsb' 16 8 = f.conf[i] := by
  rw [sampleWord, dif_pos h]
  refine ⟨BitVec.extractLsb'_append_eq_right, ?_⟩
  simp (disch := decide) only [BitVec.extractLsb'_append_eq_of_le]
  exact BitVec.extractLsb'_append_eq_right

theorem sampleWord_above (f : Frame) {i : Nat} (h : 12 ≤ i) : sampleWord f i = 0 :=
  dif_neg (Nat.not_lt.mpr h)

theorem configured_eq_true {s : State} : s.configured = true ↔ s.cfg = .configured := decide_eq_true_iff

/-- SRC_AVAIL. -/
theorem srcAvail_eq_true {s : State} : s.srcAvail = true ↔ s.src ≠ [] := by
  simp [State.srcAvail]

/-- A register that zero-extends a narrower field reads as the field's number. -/
theorem regRead_toNat_of_setWidth {n : Nat} {x : BitVec n} {r : Reg} {s : State} (hn : n ≤ 32)
    (h : regValue s r = x.setWidth 32) : (regRead r.offset s).toNat = x.toNat := by
  rw [regRead_offset, h, BitVec.toNat_setWidth_of_le hn]

/-- Settles O9: each offset is a register's, and its value is that register's row of rule R55. -/
theorem registerMapContents : Obligations.RegisterMapContents := by
  unfold Obligations.RegisterMapContents
  intro s
  have hstatus : regRead 0x04 s = s.statusWord := regRead_offset .status s
  have hdec : regRead 0x40 s = decStateWord s := regRead_offset .decState s
  have hsample {i : Nat} (h : i < 32) : regRead (0x80 + 4 * i) s = sampleWord s.frame i :=
    regRead_offset (.sample ⟨i, h⟩) s
  obtain ⟨hresult, hbusy, hcfg, hcb, hframe, hovr, hpresent, havail⟩ := statusWord_fields s
  refine ⟨regRead_offset .cmd s, ?status, ?args, ?crcAcc, regRead_offset .param s, fun hc => ?set, fun hc => ?unset,
    fun hv => (regRead_offset .setCb s).trans (if_pos hv),
    fun hv => (regRead_offset .setCb s).trans (if_neg (by simp [hv])), ?frame, hdec ▸ decStateWord_fields s,
    fun i h => ?sample, fun i hlow hhigh => (hsample hhigh).trans (sampleWord_above _ hlow)⟩
  case status =>
    rw [hstatus]
    refine ⟨hresult, hbusy, by rw [hcfg, configured_eq_true], hcb, hframe, hovr, hpresent, ?_⟩
    rw [havail, Bool.and_eq_true, srcAvail_eq_true]
  case args =>
    exact ⟨regRead_offset .argSpeed s, regRead_offset .argAngle s, regRead_offset .argPwm s, regRead_offset .argCb s⟩
  case crcAcc => exact regRead_toNat_of_setWidth (r := .crcAcc) (by decide) rfl
  case set =>
    have h : s.configured = true := configured_eq_true.mpr hc
    exact ⟨(regRead_offset .setSpeed s).trans (if_pos h), (regRead_offset .setAngle s).trans (if_pos h),
      (regRead_offset .setPwm s).trans (if_pos h)⟩
  case unset =>
    have h : ¬s.configured = true := by simp [configured_eq_true, hc]
    exact ⟨(regRead_offset .setSpeed s).trans (if_neg h), (regRead_offset .setAngle s).trans (if_neg h),
      (regRead_offset .setPwm s).trans (if_neg h)⟩
  case frame =>
    exact ⟨regRead_toNat_of_setWidth (r := .frSpeed) (by decide) rfl,
      regRead_toNat_of_setWidth (r := .frStart) (by decide) rfl,
      regRead_toNat_of_setWidth (r := .frEnd) (by decide) rfl, regRead_toNat_of_setWidth (r := .frTs) (by decide) rfl⟩
  case sample =>
    rw [hsample (by omega)]
    exact sampleWord_fields s.frame h

end Sys2Proof.Machine
end

section
/-! PROOFS. What one step can do, said once: the frame of a command's effect, the five effects of a byte step, and the
eight effects of a turn. -/

namespace Sys2Proof.Machine

/-! ## The frame of a command (10_state.md sections 2 to 6) -/

theorem cfg_cases (s : State) : s.cfg = .unconfigured ∨ s.cfg = .configured := by
  cases s.cfg <;> simp

/-- INIT_DEFAULTS writes no other field than these. -/
theorem initDefaults_frame (P : Config.Params) (s : State) :
    initDefaults P s =
      { s with
        cfg := (initDefaults P s).cfg
        settings := (initDefaults P s).settings
        events := (initDefaults P s).events
        busy := (initDefaults P s).busy
        result := (initDefaults P s).result } := by
  rcases cfg_cases s with hc | hc
  · rw [initDefaults_unconfigured P s hc, notify_eq]
    rfl
  · rw [initDefaults_configured P s hc]
    rfl

/-- CONFIGURE writes no other field than these. -/
theorem configure_frame (P : Config.Params) (a p : Bool) (s : State) :
    configure P a p s =
      { s with
        settings := (configure P a p s).settings
        events := (configure P a p s).events
        busy := (configure P a p s).busy
        result := (configure P a p s).result } := by
  rcases cfg_cases s with hc | hc
  · rw [configure_unconfigured P a p s hc]
    rfl
  · rw [configure_configured P a p s hc, notify_eq]
    rfl

/-- READ_FRAME's acceptance writes `busy` or `result`. -/
theorem startReadFrame_frame (s : State) :
    startReadFrame s = { s with busy := (startReadFrame s).busy, result := (startReadFrame s).result } := by
  rcases startReadFrame_cases s with ⟨-, e⟩ | ⟨-, -, e⟩ | ⟨-, -, e⟩ <;> rw [e] <;> rfl

/-- No command writes another field than these eight. -/
theorem commandEffect_frame (i : Instr) (s : State) :
    commandEffect i s =
      { s with
        cfg := (commandEffect i s).cfg
        settings := (commandEffect i s).settings
        cbValid := (commandEffect i s).cbValid
        cbHandle := (commandEffect i s).cbHandle
        crcAcc := (commandEffect i s).crcAcc
        busy := (commandEffect i s).busy
        result := (commandEffect i s).result
        events := (commandEffect i s).events } := by
  cases i with
  | initDefaults => rw [commandEffect, initDefaults_frame]
  | configure a p => rw [commandEffect, configure_frame]
  | readFrame => rw [commandEffect, startReadFrame_frame]
  | registerCb | crcClear | crcFeed => rfl

section
variable {i : Instr} (s : State)

/-- INIT_DEFAULTS alone moves the controller. -/
theorem commandEffect_cfg (h : i ≠ .initDefaults) : (commandEffect i s).cfg = s.cfg := by
  cases i with
  | initDefaults => exact absurd rfl h
  | configure a p => rw [commandEffect, configure_frame]
  | readFrame => rw [commandEffect, startReadFrame_frame]
  | registerCb | crcClear | crcFeed => rfl

/-- INIT_DEFAULTS and CONFIGURE alone write the settings and emit events. -/
theorem commandEffect_settings_events (hi : i ≠ .initDefaults) (hc : ∀ a p, i ≠ .configure a p) :
    (commandEffect i s).settings = s.settings ∧ (commandEffect i s).events = s.events := by
  cases i with
  | initDefaults => exact absurd rfl hi
  | configure a p => exact absurd rfl (hc a p)
  | readFrame =>
    rw [commandEffect, startReadFrame_frame]
    exact ⟨rfl, rfl⟩
  | registerCb | crcClear | crcFeed => exact ⟨rfl, rfl⟩

/-- REGISTER_CB alone writes the handle. -/
theorem commandEffect_cbHandle (h : i ≠ .registerCb) : (commandEffect i s).cbHandle = s.cbHandle := by
  cases i with
  | registerCb => exact absurd rfl h
  | initDefaults => rw [commandEffect, initDefaults_frame]
  | configure a p => exact configure_cbHandle _ a p s
  | readFrame => rw [commandEffect, startReadFrame_frame]
  | crcClear | crcFeed => rfl

/-- CRC_CLEAR and CRC_FEED alone write the accumulator. -/
theorem commandEffect_crcAcc (hc : i ≠ .crcClear) (hf : ∀ b, i ≠ .crcFeed b) :
    (commandEffect i s).crcAcc = s.crcAcc := by
  cases i with
  | crcClear => exact absurd rfl hc
  | crcFeed b => exact absurd rfl (hf b)
  | initDefaults => rw [commandEffect, initDefaults_frame]
  | configure a p => rw [commandEffect, configure_frame]
  | readFrame => rw [commandEffect, startReadFrame_frame]
  | registerCb => rfl

/-- READ_FRAME alone leaves the block busy (60_exceptions.md rule R204). -/
theorem commandEffect_busy (h : i ≠ .readFrame) : (commandEffect i s).busy = false := by
  cases hc : commandError i s with
  | some c => rw [commandEffect_of_error hc]; rfl
  | none =>
    rcases commandEffect_of_no_error hc with ⟨hi, -⟩ | ⟨-, u, e⟩
    · exact absurd hi h
    · rw [e]; rfl

end

/-! ## The byte step of a running READ_FRAME (41_frame_decoder.md rules R132 to R140) -/

/-- Taking a byte writes the two queues alone. -/
theorem take_frame {s s' : State} {b : Byte} (h : s.take = some (b, s')) :
    s' = { s with replay := s'.replay, src := s'.src } := by
  rcases take_eq_some h with ⟨_, _, rfl⟩ | ⟨_, _, _, rfl⟩ <;> rfl

/-- The stream is the replay queue and then the byte source; `take` removes its head. -/
theorem take_stream {s s' : State} {b : Byte} (h : s.take = some (b, s')) :
    s.replay ++ s.src = b :: (s'.replay ++ s'.src) := by
  rcases take_eq_some h with ⟨_, hr, rfl⟩ | ⟨hr, _, hs, rfl⟩
  · simp [hr]
  · simp [hr, hs]

/-- What one step of a running READ_FRAME can do. `readFrameStep_eq_next_iff` ties it to the model. -/
inductive ByteEffect (P : Config.Params) (s : State) : State → Prop
  /-- The stream is empty and the command ends. -/
  | empty (hnone : s.take = none) : ByteEffect P s (finishEmpty s)
  /-- While hunting a byte that is no header is discarded. -/
  | discard {b : Byte} {s' : State} (htake : s.take = some (b, s')) (hbuf : s.buf = []) (hb : b ≠ Config.hdr) :
    ByteEffect P s s'
  /-- The candidate takes the byte. -/
  | capture {b : Byte} {s' : State} (htake : s.take = some (b, s')) (hhdr : s.buf = [] → b = Config.hdr)
    (hver : s.buf.length = 1 → b = Config.verlen) (hlen : s.buf.length ≤ Config.pktLen - 2) :
    ByteEffect P s (s'.capture b)
  /-- The candidate is rejected for its version byte or for its checksum byte. -/
  | reject {b : Byte} {s' : State} {c : ResultCode} (htake : s.take = some (b, s'))
    (hcause : (c = .badVersion ∧ s.buf.length = 1 ∧ b ≠ Config.verlen) ∨
      (c = .badChecksum ∧ s.buf.length = Config.pktLen - 1 ∧ crc8 P s.buf ≠ b)) :
    ByteEffect P s ((s'.reject b).finish c)
  /-- The candidate and the byte are a packet, and its fields are delivered. -/
  | deliver {b : Byte} {s' : State} (htake : s.take = some (b, s')) (hlen : s.buf.length = Config.pktLen - 1)
    (hcrc : crc8 P s.buf = b) : ByteEffect P s ((s'.deliver (decodeFrame (s.buf ++ [b]))).finish .frame)

/-- A byte taken by a candidate of fewer than PKT_LEN bytes has one of the effects. -/
theorem ByteEffect.of_decStep {P : Config.Params} {s s' : State} {b : Byte} (htake : s.take = some (b, s'))
    (hlt : s'.buf.length < Config.pktLen) : ByteEffect P s (endByteStep (decStep P b s')) := by
  have hbuf : s'.buf = s.buf := take_buf htake
  have h47 := pktLen_eq
  rcases decStep_cases P b s' with ⟨h0, hb, e⟩ | ⟨h0, hb, e⟩ | ⟨h1, hb, e⟩ | ⟨h1, hb, e⟩ | ⟨hlow, hhigh, e⟩ |
    ⟨hlow, hb, e⟩ | ⟨hlow, hb, e⟩ <;> rw [e] <;> simp only [hbuf] at *
  · exact .discard htake h0 hb
  · exact .capture htake (fun _ => hb) (by simp [h0]) (by simp [h0])
  · exact .capture htake (fun h => by simp [h] at h1) (fun _ => hb) (by omega)
  · exact .reject htake (.inl ⟨rfl, h1, hb⟩)
  · exact .capture htake (fun h => by simp [h] at hlow) (fun h => by omega) hhigh
  · exact .deliver htake (by omega) hb
  · exact .reject htake (.inr ⟨rfl, by omega, hb⟩)

section
variable {P : Config.Params} {b : Byte} {s : State}

/-- The three capturing cases of the byte step. -/
theorem decStep_capture (hhdr : s.buf = [] → b = Config.hdr) (hver : s.buf.length = 1 → b = Config.verlen)
    (hlen : s.buf.length ≤ Config.pktLen - 2) : decStep P b s = (.cont, s.capture b) := by
  rcases hbuf : s.buf with - | ⟨x, - | ⟨y, zs⟩⟩
  · obtain rfl := hhdr hbuf
    exact decStep_header hbuf
  · have h1 : s.buf.length = 1 := congrArg List.length hbuf
    obtain rfl := hver h1
    exact decStep_verlen h1
  · exact decStep_body (by simp [hbuf]) hlen

/-- The two rejecting cases of the byte step, and the end of the command. -/
theorem endByteStep_reject {c : ResultCode}
    (hcause : (c = .badVersion ∧ s.buf.length = 1 ∧ b ≠ Config.verlen) ∨
      (c = .badChecksum ∧ s.buf.length = Config.pktLen - 1 ∧ crc8 P s.buf ≠ b)) :
    endByteStep (decStep P b s) = (s.reject b).finish c := by
  rcases hcause with ⟨rfl, h1, hb⟩ | ⟨rfl, h46, hb⟩
  · rw [decStep_badVersion h1 hb, endByteStep_badVersion]
  · rw [decStep_badChecksum h46 hb, endByteStep_badChecksum]

end

/-- A step that finds a byte, with a candidate of fewer than PKT_LEN bytes, is that byte's step. -/
theorem readFrameStep_taken {P : Config.Params} {s s' : State} {b : Byte} (htake : s.take = some (b, s'))
    (hlt : s.buf.length < Config.pktLen) : readFrameStep P s = .next (endByteStep (decStep P b s')) := by
  rw [readFrameStep, htake]
  exact if_pos (take_buf htake ▸ hlt)

/-- A step of a running READ_FRAME that goes on has exactly one of the five effects. -/
theorem readFrameStep_eq_next_iff {P : Config.Params} {s t : State} :
    readFrameStep P s = .next t ↔ ByteEffect P s t := by
  constructor
  · intro h
    rcases readFrameStep_cases P s with ⟨hnone, e⟩ | ⟨b, s', htake, hlt, e⟩ | ⟨b, s', -, -, e⟩ <;> rw [e] at h <;>
      cases h
    · exact .empty hnone
    · exact .of_decStep htake hlt
  · have h47 := pktLen_eq
    intro h
    cases h with
    | empty hnone => rw [readFrameStep, hnone]
    | discard htake hbuf hb =>
      rw [readFrameStep_taken htake (by simp [hbuf])]
      simp [decStep, take_buf htake, hbuf, hb]
    | capture htake hhdr hver hlen =>
      rw [readFrameStep_taken htake (by omega)]
      rw [← take_buf htake] at hhdr hver hlen
      rw [decStep_capture hhdr hver hlen, endByteStep_cont]
    | reject htake hcause =>
      rw [readFrameStep_taken htake (by omega)]
      rw [← take_buf htake] at hcause
      rw [endByteStep_reject hcause]
    | deliver htake hlen hcrc =>
      rw [readFrameStep_taken htake (by omega)]
      rw [← take_buf htake] at hlen hcrc ⊢
      rw [decStep_deliver hlen hcrc, endByteStep_frame]

/-- A byte step writes no other field than these seven. -/
theorem ByteEffect.frame {P : Config.Params} {s t : State} (h : ByteEffect P s t) :
    t =
      { s with
        buf := t.buf
        replay := t.replay
        src := t.src
        frame := t.frame
        frameValid := t.frameValid
        busy := t.busy
        result := t.result } := by
  cases h with
  | empty => rfl
  | discard htake => rw [take_frame htake]
  | capture htake | reject htake | deliver htake => rw [take_frame htake]; rfl

/-! ## The turn of each agent (20_memory.md rules R52 to R70) -/

/-- What one step that goes on can do, by the agent whose turn it is. `stepEffect` ties it to the model. -/
inductive StepEffect (s t : State) : Prop
  /-- The host writes a command's word to CMD and it is accepted. -/
  | command (i : Instr) (haccept : acceptsCmd s (encode i)) (ht : t = commandEffect i s.endTurn)
  /-- The host writes an illegal word to CMD and it is accepted. -/
  | illegal (w : Word) (haccept : acceptsCmd s w) (ht : t = s.endTurn.finish .errIllegal)
  /-- The host writes to CMD while the block is busy. -/
  | dropped (w : Word) (hbusy : s.busy = true) (hturn : s.nextAction = .regWrite 0x00 w) (ht : t = s.endTurn.dropCmd)
  /-- The host writes to an operand register. -/
  | operand (x a p c : Word) (hturn : ∃ acc, s.nextAction = .host acc)
    (hx : x ≠ s.argSpeed → s.nextAction = .regWrite 0x08 x) (ha : a ≠ s.argAngle → s.nextAction = .regWrite 0x0C a)
    (hp : p ≠ s.argPwm → s.nextAction = .regWrite 0x10 p) (hc : c ≠ s.argCb → s.nextAction = .regWrite 0x14 c)
    (ht : t = s.endTurn.withArgs x a p c)
  /-- Bytes arrive at the byte source. -/
  | arrival (bs : List Byte) (hturn : s.nextAction = .source bs) (ht : t = s.endTurn.srcAppend bs)
  /-- The environment resets the block. -/
  | reset (hturn : resetsNext s) (ht : t = s.endTurn.hardReset)
  /-- The block takes a step of a running READ_FRAME. -/
  | byteStep (hturn : byteStepNext s) (heffect : ByteEffect Config.params s.endTurn t)
  /-- The host reads, polls or writes where a write is ignored, or the block is idle. -/
  | quiet (hblock : ¬byteStepNext s) (hsource : ∀ bs, s.nextAction ≠ .source bs)
    (ht : t = { s with reads := t.reads, schedule := t.schedule })

/-- A CMD write that goes on is a command, an illegal word, or dropped. -/
theorem StepEffect.of_cmdWrite {s t : State} {w : Word} (hturn : s.nextAction = .regWrite 0x00 w)
    (h : cmdWrite w s.endTurn = .next t) : StepEffect s t := by
  rcases cmdWrite_next h with ⟨hbusy, ht⟩ | ⟨hidle, -, ht⟩ | ⟨hidle, i, hd, ht⟩
  · exact .dropped w hbusy hturn ht
  · exact .illegal w ⟨hidle, hturn⟩ ht
  · obtain rfl := decode_eq_ok_iff.mp hd
    exact .command i ⟨hidle, hturn⟩ ht

/-- A poll adds to the host's record and to the coming turns. -/
theorem hostPoll_frame (s : State) :
    hostPoll s = { s with reads := (hostPoll s).reads, schedule := (hostPoll s).schedule } := by
  unfold hostPoll
  split <;> rfl

/-- A turn of the host is neither the block's nor the byte source's. -/
theorem host_turn {s : State} {acc : Access} (h : s.nextAction = .host acc) :
    ¬byteStepNext s ∧ ∀ bs, s.nextAction ≠ .source bs := by
  simp [byteStepNext, h]

/-- Everything a step that goes on can do. -/
theorem stepEffect {s t : State} (h : step s = .next t) : StepEffect s t := by
  rcases step_next h with ⟨w, hturn, hw⟩ | ⟨v, hturn, rfl⟩ | ⟨v, hturn, rfl⟩ | ⟨v, hturn, rfl⟩ | ⟨v, hturn, rfl⟩ |
    ⟨off, v, hturn, rfl⟩ | ⟨off, hturn, rfl⟩ | ⟨hturn, rfl⟩ | ⟨bs, hturn, rfl⟩ | ⟨hturn, rfl⟩ | ⟨hturn, hb⟩
  · exact .of_cmdWrite hturn hw
  · exact .operand v s.argAngle s.argPwm s.argCb ⟨_, hturn⟩
      (fun _ => hturn) (absurd rfl) (absurd rfl) (absurd rfl) rfl
  · exact .operand s.argSpeed v s.argPwm s.argCb ⟨_, hturn⟩
      (absurd rfl) (fun _ => hturn) (absurd rfl) (absurd rfl) rfl
  · exact .operand s.argSpeed s.argAngle v s.argCb ⟨_, hturn⟩
      (absurd rfl) (absurd rfl) (fun _ => hturn) (absurd rfl) rfl
  · exact .operand s.argSpeed s.argAngle s.argPwm v ⟨_, hturn⟩
      (absurd rfl) (absurd rfl) (absurd rfl) (fun _ => hturn) rfl
  · exact .quiet (host_turn hturn).1 (host_turn hturn).2 rfl
  · exact .quiet (host_turn hturn).1 (host_turn hturn).2 rfl
  · exact .quiet (by simp [byteStepNext, hturn]) (by simp [hturn]) (hostPoll_frame s.endTurn)
  · exact .arrival bs hturn rfl
  · exact .reset hturn rfl
  · cases hbusy : s.busy with
    | false =>
      cases (blockStep_idle (s := s.endTurn) hbusy).symm.trans hb
      exact .quiet (by simp [byteStepNext, hbusy]) (by simp [hturn]) rfl
    | true =>
      rw [blockStep_running (s := s.endTurn) hbusy] at hb
      exact .byteStep ⟨hbusy, hturn⟩ (readFrameStep_eq_next_iff.mp hb)

end Sys2Proof.Machine
end

section
/-! PROOFS. The invariant (10_state.md section 5): the reset state meets it, every command and every byte step keeps it,
and no state of it is stuck (60_exceptions.md section 5). -/

namespace Sys2Proof.Machine

/-! ## Commands keep the invariant -/

/-- The end of a command keeps the invariant: `busy` = 0 asks nothing of the controller. -/
theorem State.Inv.finish {s : State} (h : s.Inv) (c : ResultCode) : (s.finish c).Inv := by
  obtain ⟨hqueues, hunset, -⟩ := h
  exact ⟨hqueues, hunset, nofun⟩

/-- A Configured block may hold any settings. -/
theorem State.Inv.storeSettings_notify {s : State} (h : s.Inv) (hcfg : s.cfg = .configured) (P : Config.Params)
    (x : Settings) : ((s.storeSettings x).notify P).Inv := by
  obtain ⟨hqueues, ⟨-, hslot, hframe⟩, hbusy⟩ := h
  rw [notify_eq]
  exact ⟨hqueues, ⟨fun hu => (nomatch hcfg.symm.trans hu), hslot, hframe⟩, hbusy⟩

/-- The controller may move to Configured. -/
theorem State.Inv.configured {s : State} (h : s.Inv) : ({ s with cfg := .configured } : State).Inv := by
  obtain ⟨hqueues, ⟨-, hslot, hframe⟩, hbusy⟩ := h
  exact ⟨hqueues, ⟨nofun, hslot, hframe⟩, fun hb => ⟨rfl, (hbusy hb).2⟩⟩

/-- Every command keeps the invariant; READ_FRAME starts only Configured and with a byte source. -/
theorem State.Inv.commandEffect {s : State} (h : s.Inv) (i : Instr) : (commandEffect i s).Inv := by
  cases i with
  | initDefaults =>
    cases hcfg : s.cfg with
    | configured =>
      rw [Machine.commandEffect, initDefaults_configured _ s hcfg]
      exact h.finish _
    | unconfigured =>
      rw [Machine.commandEffect, initDefaults_unconfigured _ s hcfg]
      exact (h.configured.storeSettings_notify rfl _ _).finish _
  | configure a p =>
    cases hcfg : s.cfg with
    | unconfigured =>
      rw [Machine.commandEffect, configure_unconfigured _ a p s hcfg]
      exact h.finish _
    | configured =>
      rw [Machine.commandEffect, configure_configured _ a p s hcfg]
      exact (h.storeSettings_notify hcfg _ _).finish _
  | readFrame =>
    rw [Machine.commandEffect]
    rcases startReadFrame_cases s with ⟨-, e⟩ | ⟨-, -, e⟩ | ⟨hcfg, hsrc, e⟩ <;> rw [e]
    · exact h.finish _
    · exact h.finish _
    · obtain ⟨hqueues, hunset, -⟩ := h
      exact ⟨hqueues, hunset, fun _ => ⟨hcfg, hsrc⟩⟩
  | registerCb =>
    obtain ⟨hqueues, ⟨hset, -, hframe⟩, -⟩ := h
    exact ⟨hqueues, ⟨hset, nofun, hframe⟩, nofun⟩
  | crcClear | crcFeed =>
    obtain ⟨hqueues, hunset, -⟩ := h
    exact ⟨hqueues, hunset, nofun⟩

/-! ## Byte steps keep the invariant (41_frame_decoder.md section 3) -/

theorem markersOk_nil : markersOk [] := ⟨nofun, nofun⟩

/-- Taking a byte shortens the replay queue unless it is empty. -/
theorem take_replay_length {s s' : State} {b : Byte} (h : s.take = some (b, s')) :
    s'.replay.length = s.replay.length - 1 := by
  rcases take_eq_some h with ⟨_, hr, rfl⟩ | ⟨hr, _, _, rfl⟩ <;> simp [hr]

/-- A captured byte comes from the replay queue, or finds it empty; a rejected one replaces the header. -/
theorem ByteEffect.queuesOk {P : Config.Params} {s t : State} (h : ByteEffect P s t) (hs : Machine.queuesOk s) :
    Machine.queuesOk t := by
  obtain ⟨hsum, hmarkers⟩ := hs
  rw [pktLen_eq] at hsum
  cases h with
  | empty => exact ⟨hsum, hmarkers⟩
  | discard htake =>
    have hreplay := take_replay_length htake
    refine ⟨?_, take_buf htake ▸ hmarkers⟩
    rw [take_buf htake, pktLen_eq]
    omega
  | capture htake hhdr hver hlen =>
    have hreplay := take_replay_length htake
    rw [pktLen_eq] at hlen
    rw [Machine.queuesOk, State.capture_buf, State.capture_replay, take_buf htake]
    refine ⟨?_, markersOk_capture hmarkers hhdr hver⟩
    simp only [List.length_append, List.length_singleton, pktLen_eq]
    omega
  | reject htake hcause =>
    have hreplay := take_replay_length htake
    have hbuf : s.buf.length = 1 ∨ s.buf.length = 46 := hcause.imp (fun ⟨_, h, _⟩ => h) (fun ⟨_, h, _⟩ => h)
    refine ⟨?_, markersOk_nil⟩
    simp [take_buf htake, pktLen_eq]
    omega
  | deliver htake =>
    have hreplay := take_replay_length htake
    refine ⟨?_, markersOk_nil⟩
    simp [pktLen_eq]
    omega

/-- A byte step that leaves `frame_valid` = 0 leaves the frame registers. -/
theorem ByteEffect.frame_of_not_valid {P : Config.Params} {s t : State} (h : ByteEffect P s t)
    (ht : t.frameValid = false) : s.frameValid = false ∧ t.frame = s.frame := by
  cases h with
  | empty => exact ⟨ht, rfl⟩
  | discard htake | capture htake | reject htake =>
    rw [take_frame htake] at ht ⊢
    exact ⟨ht, rfl⟩
  | deliver => cases ht

/-- Every byte step of a running READ_FRAME keeps the invariant. -/
theorem ByteEffect.inv {P : Config.Params} {s t : State} (h : ByteEffect P s t) (hs : s.Inv)
    (hrun : s.busy = true) : t.Inv := by
  obtain ⟨hqueues, ⟨hset, hslot, hframe⟩, hbusy⟩ := hs
  refine ⟨h.queuesOk hqueues, ⟨?_, ?_, ?_⟩, ?_⟩
  · rw [h.frame]
    exact hset
  · rw [h.frame]
    exact hslot
  · intro ht
    obtain ⟨hvalid, e⟩ := h.frame_of_not_valid ht
    exact e.trans (hframe hvalid)
  · intro _
    rw [h.frame]
    exact hbusy hrun

/-! ## Every step keeps the invariant -/

theorem State.Inv.queues_le {s : State} (h : s.Inv) : s.buf.length + s.replay.length ≤ 46 := by
  obtain ⟨⟨hsum, -⟩, -, -⟩ := h
  exact hsum

/-- Settles O44: every queue is empty, every field unset. -/
theorem resetMeetsTheInvariant : Obligations.ResetMeetsTheInvariant :=
  ⟨⟨by decide, markersOk_nil⟩, ⟨fun _ => rfl, fun _ => rfl, fun _ => rfl⟩, nofun⟩

/-- Every turn of every agent keeps the invariant. -/
theorem StepEffect.inv {s t : State} (h : StepEffect s t) (hs : s.Inv) : t.Inv := by
  cases h with
  | command i haccept ht =>
    rw [ht]
    exact State.Inv.commandEffect (s := s.endTurn) hs i
  | illegal w haccept ht =>
    rw [ht]
    exact State.Inv.finish (s := s.endTurn) hs _
  | reset hturn ht =>
    rw [ht]
    obtain ⟨hqueues, hunset, -⟩ := resetMeetsTheInvariant
    exact ⟨hqueues, hunset, nofun⟩
  | byteStep hturn heffect => exact heffect.inv hs hturn.1
  | dropped _ _ _ ht | operand _ _ _ _ _ _ _ _ _ ht | arrival _ _ ht | quiet _ _ ht =>
    rw [ht]
    exact hs

/-- Settles O45: `StepEffect.inv`, and the two bounds from the bound on the sum. -/
theorem stepKeepsTheInvariant : Obligations.StepKeepsTheInvariant := by
  unfold Obligations.StepKeepsTheInvariant
  intro s t hs h
  have ht : t.Inv := (stepEffect h).inv hs
  have hsum := ht.queues_le
  exact ⟨ht, by omega, by omega⟩

/-! ## No state is stuck (60_exceptions.md rule R216) -/

/-- A step of a running READ_FRAME goes on while the candidate holds fewer than PKT_LEN bytes. -/
theorem readFrameStep_total {P : Config.Params} {s : State} (h : s.buf.length < Config.pktLen) :
    ∃ t, readFrameStep P s = .next t := by
  cases htake : s.take with
  | none => exact ⟨_, by rw [readFrameStep, htake]⟩
  | some p => exact ⟨_, readFrameStep_taken htake h⟩

theorem blockStep_total {s : State} (h : s.buf.length < Config.pktLen) : ∃ t, blockStep s = .next t := by
  cases hb : s.busy with
  | false => exact ⟨s, blockStep_idle hb⟩
  | true =>
    rw [blockStep_running hb]
    exact readFrameStep_total h

/-- The candidate of a state of the invariant has room for the next byte. -/
theorem State.Inv.buf_lt {s : State} (h : s.Inv) : s.buf.length < Config.pktLen := by
  have hsum := h.queues_le
  rw [pktLen_eq]
  omega

/-- Only the block's step can be a fault. -/
theorem agentStep_not_fault {s : State} (h : s.buf.length < Config.pktLen) (act : Action) (r : Fault) :
    agentStep act s ≠ .fault r := by
  cases act with
  | host a =>
    rw [agentStep, hostAccess]
    cases accessRefusal a with
    | some r' => nofun
    | none =>
      cases a.op with
      | read => nofun
      | write v =>
        obtain ⟨t, ht⟩ := regWrite_total a.off v s
        simp [ht]
  | block =>
    obtain ⟨t, ht⟩ := blockStep_total h
    simp [agentStep, ht]
  | poll | source | reset => nofun

/-- An idle block's CMD write starts a READ_FRAME or ends in its own step, with a code that does not depend on the
former result. -/
theorem cmdWrite_accepted (w : Word) {s : State} (h : s.busy = false) :
    (∃ t, cmdWrite w s = .next t ∧ t.busy = true ∧ t.cmdOvr = s.cmdOvr) ∨
      ∃ r, r ≠ ResultCode.none ∧ ∀ c, ∃ t, cmdWrite w { s with result := c } = .next t ∧ t.busy = false ∧
        t.result = r ∧ t.cmdOvr = s.cmdOvr := by
  cases hd : decode w with
  | error e => exact .inr ⟨.errIllegal, nofun, fun c => ⟨_, cmdWrite_illegal hd h, h, rfl, rfl⟩⟩
  | ok i =>
    cases hc : commandError i s with
    | some r =>
      refine .inr ⟨r, ?_, fun c => ⟨_, cmdWrite_of_error (s := { s with result := c }) hd h hc, h, rfl, rfl⟩⟩
      rintro rfl
      exact nomatch commandError_isError hc
    | none =>
      have hovr (c : ResultCode) : (commandEffect i { s with result := c }).cmdOvr = s.cmdOvr :=
        (congrArg State.cmdOvr (commandEffect_frame i _) :)
      by_cases hi : i = .readFrame
      · rcases commandEffect_of_no_error hc with ⟨-, e⟩ | ⟨hne, -⟩
        · exact .inl ⟨_, cmdWrite_legal hd h, by rw [e], hovr s.result⟩
        · exact absurd hi hne
      · refine .inr ⟨.done, nofun, fun c => ⟨_, cmdWrite_legal hd h, commandEffect_busy _ hi, ?_, hovr c⟩⟩
        rcases commandEffect_of_no_error (s := { s with result := c }) hc with ⟨hi', -⟩ | ⟨-, u, e⟩
        · exact absurd hi' hi
        · rw [e]; rfl

/-- Settles O46: no agent's step is a fault, a CMD write is accepted, and a byte step goes on. -/
theorem noStateIsStuck : Obligations.NoStateIsStuck := by
  unfold Obligations.NoStateIsStuck
  intro s hs
  refine ⟨agentStep_not_fault (s := s.endTurn) hs.buf_lt s.nextAction, fun hidle w hturn => ?_, fun _ hturn => ?_⟩
  · rcases cmdWrite_accepted w (s := s.endTurn) hidle with ⟨t, ht, h⟩ | ⟨r, hr, h⟩
    · exact .inl ⟨t, (step_cmdWrite hturn).trans ht, h⟩
    · refine .inr ⟨r, hr, fun c => ?_⟩
      obtain ⟨t, ht, h⟩ := h c
      exact ⟨t, (step_cmdWrite (s := { s with result := c }) hturn).trans ht, h⟩
  · rw [step_turn hturn]
    exact blockStep_total (s := s.endTurn) hs.buf_lt

end Sys2Proof.Machine
end

section
/-! PROOFS. The whole-machine rules (10_state.md sections 2 to 7; 60_exceptions.md section 1; 70_reset_and_hazards.md
sections 1 and 3): what each command leaves, and which turn can change each field. -/

namespace Sys2Proof.Machine

/-! ## The effect of a command, whole (rule R202; 10_state.md sections 2 to 6) -/

/-- Settles O23: an illegal word and a command's error are `finish`; a command without an error leaves busy or DONE. -/
theorem errorsHaveNoPartialEffect : Obligations.ErrorsHaveNoPartialEffect := by
  unfold Obligations.ErrorsHaveNoPartialEffect
  intro s t w h hidle htidle hcode
  have hfinish (c : ResultCode) : s.finish c = { s with result := (s.finish c).result } := finish_idle c s hidle
  rcases cmdWrite_next h with ⟨hbusy, -⟩ | ⟨-, -, rfl⟩ | ⟨-, i, -, rfl⟩
  · exact absurd (hidle.symm.trans hbusy) nofun
  · exact hfinish _
  · cases hc : commandError i s with
    | some c =>
      rw [commandEffect_of_error hc]
      exact hfinish c
    | none =>
      rcases commandEffect_of_no_error hc with ⟨-, e⟩ | ⟨-, u, e⟩
      · exact absurd htidle (by simp [e])
      · exact absurd hcode (by simp [e, ResultCode.code])

/-- Settles O24: the frame of a dropped write, and of an accepted command field by field. -/
theorem frameOfEveryCommand : Obligations.FrameOfEveryCommand := by
  unfold Obligations.FrameOfEveryCommand
  intro s t i h
  cases hb : s.busy with
  | true =>
    cases (exec_busy i hb).symm.trans h
    simp [hb, State.dropCmd]
  | false =>
    cases (exec_idle i hb).symm.trans h
    have hframe := commandEffect_frame i s
    refine ⟨?operands, ?decoder, ?environment, commandEffect_cfg s, commandEffect_settings_events s,
      fun hi => ⟨commandEffect_cbValid hi s, commandEffect_cbHandle s hi⟩, commandEffect_crcAcc s, commandEffect_busy s,
      fun _ => (congrArg State.cmdOvr hframe :), nofun⟩
    case operands =>
      rw [hframe]
      exact ⟨rfl, rfl, rfl, rfl⟩
    case decoder =>
      rw [hframe]
      exact ⟨rfl, rfl, rfl, rfl⟩
    case environment =>
      rw [hframe]
      exact ⟨rfl, rfl, rfl, rfl, rfl⟩

/-! ## The controller, the slot, the accumulator and the events -/

/-- Only an accepted command and a reset write the controller's state, the slot, the accumulator or the events. -/
theorem StepEffect.controller {s t : State} (h : StepEffect s t) :
    (∃ i, acceptsCmd s (encode i) ∧ t = commandEffect i s.endTurn) ∨ (resetsNext s ∧ t = s.endTurn.hardReset) ∨
      (t.cfg = s.cfg ∧ t.settings = s.settings ∧ t.cbValid = s.cbValid ∧ t.cbHandle = s.cbHandle ∧
        t.crcAcc = s.crcAcc ∧ t.events = s.events) := by
  cases h with
  | command i haccept ht => exact .inl ⟨i, haccept, ht⟩
  | reset hturn ht => exact .inr (.inl ⟨hturn, ht⟩)
  | byteStep _ heffect =>
    rw [heffect.frame]
    exact .inr (.inr ⟨rfl, rfl, rfl, rfl, rfl, rfl⟩)
  | illegal _ _ ht | dropped _ _ _ ht | operand _ _ _ _ _ _ _ _ _ ht | arrival _ _ ht | quiet _ _ ht =>
    rw [ht]
    exact .inr (.inr ⟨rfl, rfl, rfl, rfl, rfl, rfl⟩)

/-- Settles O50: a command that moves the controller is INIT_DEFAULTS, and it moves only an Unconfigured block. -/
theorem onlyInitDefaultsConfigures : Obligations.OnlyInitDefaultsConfigures := by
  unfold Obligations.OnlyInitDefaultsConfigures
  intro s t h hne hr
  rcases (stepEffect h).controller with ⟨i, haccept, rfl⟩ | ⟨hreset, -⟩ | ⟨hcfg, -⟩
  · obtain rfl : i = .initDefaults := by
      by_contra hi
      exact hne (commandEffect_cfg s.endTurn hi)
    cases hcfg : s.cfg with
    | configured => exact absurd (by simp [commandEffect, initDefaults_configured _ s.endTurn hcfg]) hne
    | unconfigured => exact ⟨rfl, by simp [commandEffect, initDefaults_unconfigured _ s.endTurn hcfg], haccept⟩
  · exact absurd hreset hr
  · exact absurd hcfg hne

/-- Settles O51: a command that changes the accumulator is CRC_CLEAR or CRC_FEED. -/
theorem onlyChecksumCommandsWriteTheAccumulator : Obligations.OnlyChecksumCommandsWriteTheAccumulator := by
  unfold Obligations.OnlyChecksumCommandsWriteTheAccumulator
  intro s t h hne hr
  rcases (stepEffect h).controller with ⟨i, haccept, rfl⟩ | ⟨hreset, -⟩ | ⟨-, -, -, -, hacc, -⟩
  · by_cases hclear : i = .crcClear
    · subst hclear
      exact .inl ⟨haccept, rfl⟩
    by_cases hfeed : ∃ b, i = .crcFeed b
    · obtain ⟨b, rfl⟩ := hfeed
      exact .inr ⟨b, haccept, crcStep_eq Config.params s.crcAcc b⟩
    · exact absurd (commandEffect_crcAcc s.endTurn hclear (not_exists.mp hfeed)) hne
  · exact absurd hreset hr
  · exact absurd hacc hne

/-- A command that changes the settings or the events is an INIT_DEFAULTS of an Unconfigured block or a CONFIGURE of a
Configured one. -/
theorem commandEffect_settings_events_of_ne {i : Instr} {s : State}
    (h : (commandEffect i s).settings ≠ s.settings ∨ (commandEffect i s).events ≠ s.events) :
    (i = .initDefaults ∧ s.cfg = .unconfigured) ∨ ∃ a p, i = .configure a p ∧ s.cfg = .configured := by
  by_cases hi : i = .initDefaults
  · subst hi
    cases hcfg : s.cfg with
    | unconfigured => exact .inl ⟨rfl, rfl⟩
    | configured => simp [commandEffect, initDefaults_configured _ s hcfg] at h
  by_cases hc : ∃ a p, i = .configure a p
  · obtain ⟨a, p, rfl⟩ := hc
    cases hcfg : s.cfg with
    | unconfigured => simp [commandEffect, configure_unconfigured _ a p s hcfg] at h
    | configured => exact .inr ⟨a, p, rfl, rfl⟩
  · obtain ⟨hs, he⟩ := commandEffect_settings_events s hi (by simpa using hc)
    exact absurd h (by simp [hs, he])

/-- Settles O52: the two commands, and the triple that each stores. -/
theorem settingsAreWrittenAsOneTriple : Obligations.SettingsAreWrittenAsOneTriple := by
  unfold Obligations.SettingsAreWrittenAsOneTriple
  intro s t h hne hr
  rcases (stepEffect h).controller with ⟨i, haccept, rfl⟩ | ⟨hreset, -⟩ | ⟨-, hset, -⟩
  · rcases commandEffect_settings_events_of_ne (s := s.endTurn) (.inl hne) with ⟨rfl, hcfg⟩ | ⟨a, p, rfl, hcfg⟩
    · exact .inl ⟨haccept, by simp [commandEffect, initDefaults_unconfigured _ _ hcfg]; rfl⟩
    · exact .inr ⟨a, p, haccept, hcfg, by simp [commandEffect, configure_configured _ a p _ hcfg]; rfl⟩
  · exact absurd hreset hr
  · exact absurd hset hne

/-- A controller command that runs and changes the events has a callback, and appends the record of the settings it
leaves (20_memory.md rule R62). -/
theorem notify_finish_emits {P : Config.Params} {u t : State} (e : t = (u.notify P).finish .done)
    (hne : t.events ≠ u.events) :
    u.cbValid = true ∧ t.events = u.events ++ [⟨u.cbHandle, t.settings.speed, t.settings.angle, t.settings.pwmFreq,
      P.pwmDerive t.settings.pwmFreq⟩] := by
  rw [notify_eq] at e
  subst e
  cases hv : u.cbValid with
  | false => simp [hv] at hne
  | true => simp [pwmEvent]

/-- Settles O53: the two commands append the record of the settings that they leave. -/
theorem eventsComeFromTheControllerOnly : Obligations.EventsComeFromTheControllerOnly := by
  unfold Obligations.EventsComeFromTheControllerOnly
  intro s t h hne
  rcases (stepEffect h).controller with ⟨i, haccept, rfl⟩ | ⟨-, rfl⟩ | ⟨-, -, -, -, -, hevents⟩
  · rcases commandEffect_settings_events_of_ne (s := s.endTurn) (.inr hne) with ⟨rfl, hcfg⟩ | ⟨a, p, rfl, hcfg⟩
    · have e := initDefaults_unconfigured Config.params s.endTurn hcfg
      obtain ⟨hv, he⟩ := notify_finish_emits e hne
      exact ⟨hv, congrArg State.result e, .inl haccept, he⟩
    · have e := configure_configured Config.params a p s.endTurn hcfg
      obtain ⟨hv, he⟩ := notify_finish_emits e hne
      exact ⟨hv, congrArg State.result e, .inr ⟨a, p, haccept⟩, he⟩
  · exact absurd rfl hne
  · exact absurd hevents hne

/-! ## The sticky flags (10_state.md rule R36) -/

/-- `cmd_ovr` is set by a CMD write while busy; but for a reset it is never cleared. -/
theorem StepEffect.cmdOvr {s t : State} (h : StepEffect s t) :
    t.cmdOvr = s.cmdOvr ∨ (resetsNext s ∧ t.cmdOvr = false) ∨
      (t.cmdOvr = true ∧ s.busy = true ∧ ∃ w, s.nextAction = .regWrite 0x00 w) := by
  cases h with
  | command i _ ht =>
    rw [ht, commandEffect_frame]
    exact .inl rfl
  | reset hturn ht => exact .inr (.inl ⟨hturn, congrArg State.cmdOvr ht⟩)
  | dropped w hbusy hturn ht => exact .inr (.inr ⟨congrArg State.cmdOvr ht, hbusy, w, hturn⟩)
  | byteStep _ heffect => exact .inl (congrArg State.cmdOvr heffect.frame :)
  | illegal _ _ ht | operand _ _ _ _ _ _ _ _ _ ht | arrival _ _ ht | quiet _ _ ht =>
    exact .inl (congrArg State.cmdOvr ht :)

/-- A byte step leaves the frame registers and `frame_valid`, or delivers the packet that it completes. -/
theorem ByteEffect.frameRegisters {P : Config.Params} {s t : State} (h : ByteEffect P s t) :
    (t.frame = s.frame ∧ t.frameValid = s.frameValid) ∨
      (s.buf.length = 46 ∧ t.frameValid = true ∧ t.result = .frame ∧ t.busy = false ∧
        s.replay ++ s.src = crc8 P s.buf :: (t.replay ++ t.src) ∧ t.frame = decodeFrame (s.buf ++ [crc8 P s.buf])) := by
  cases h with
  | empty => exact .inl ⟨rfl, rfl⟩
  | discard htake | capture htake | reject htake =>
    rw [take_frame htake]
    exact .inl ⟨rfl, rfl⟩
  | deliver htake hlen hcrc =>
    subst hcrc
    exact .inr ⟨hlen, rfl, rfl, rfl, (take_stream htake :), rfl⟩

/-- But for a reset only a byte step writes the frame registers. -/
theorem StepEffect.frameRegisters {s t : State} (h : StepEffect s t) :
    (t.frame = s.frame ∧ t.frameValid = s.frameValid) ∨ (resetsNext s ∧ t.frameValid = false) ∨
      (byteStepNext s ∧ s.buf.length = 46 ∧ t.frameValid = true ∧ t.result = .frame ∧ t.busy = false ∧
        s.replay ++ s.src = crc8 Config.params s.buf :: (t.replay ++ t.src) ∧
        t.frame = decodeFrame (s.buf ++ [crc8 Config.params s.buf])) := by
  cases h with
  | command i _ ht =>
    rw [ht, commandEffect_frame]
    exact .inl ⟨rfl, rfl⟩
  | reset hturn ht => exact .inr (.inl ⟨hturn, congrArg State.frameValid ht⟩)
  | byteStep hturn heffect => exact heffect.frameRegisters.imp_right fun hdeliver => .inr ⟨hturn, hdeliver⟩
  | illegal _ _ ht | dropped _ _ _ ht | operand _ _ _ _ _ _ _ _ _ ht | arrival _ _ ht | quiet _ _ ht =>
    rw [ht]
    exact .inl ⟨rfl, rfl⟩

/-- Settles O48: `cfg` moves only to Configured, and each flag falls only at a reset. -/
theorem onlyResetClearsStickyState : Obligations.OnlyResetClearsStickyState := by
  unfold Obligations.OnlyResetClearsStickyState
  intro s t h hr
  refine ⟨fun hcfg => ?_, step_keeps_callback h hr, fun hv => ?_, fun hv => ?_⟩
  · by_contra hne
    obtain ⟨-, hconfigured, -⟩ := onlyInitDefaultsConfigures s t h (fun e => hne (e.trans hcfg)) hr
    exact hne hconfigured
  · rcases (stepEffect h).frameRegisters with ⟨-, e⟩ | ⟨hreset, -⟩ | ⟨-, -, hvalid, -⟩
    · exact e.trans hv
    · exact absurd hreset hr
    · exact hvalid
  · rcases (stepEffect h).cmdOvr with e | ⟨hreset, -⟩ | ⟨hovr, -⟩
    · exact e.trans hv
    · exact absurd hreset hr
    · exact hovr

/-- Settles O49: the cause of each flag that rises. -/
theorem stickyFlagsAreSetOnlyByTheirCause : Obligations.StickyFlagsAreSetOnlyByTheirCause := by
  unfold Obligations.StickyFlagsAreSetOnlyByTheirCause
  intro s t h
  refine ⟨fun hs ht => ?_, fun hs ht => ?_, fun hs ht => ?_⟩
  · rcases (stepEffect h).cmdOvr with e | ⟨-, e⟩ | ⟨-, hcause⟩
    · simp [e, hs] at ht
    · simp [e] at ht
    · exact hcause
  · rcases (stepEffect h).frameRegisters with ⟨-, e⟩ | ⟨-, e⟩ | ⟨hturn, hlen, -, hresult, hbusy, -⟩
    · simp [e, hs] at ht
    · simp [e] at ht
    · exact ⟨hturn, hlen, hresult, hbusy⟩
  · rcases (stepEffect h).controller with ⟨i, haccept, rfl⟩ | ⟨-, rfl⟩ | ⟨-, -, e, -⟩
    · by_cases hi : i = .registerCb
      · exact hi ▸ haccept
      · rw [commandEffect_cbValid hi] at ht
        simp [hs] at ht
    · cases ht
    · simp [e, hs] at ht

/-! ## The operand registers (10_state.md rule R25) -/

/-- Settles O54: an operand register is written by the host, at its own offset. -/
theorem operandRegistersAreWrittenByTheHostOnly : Obligations.OperandRegistersAreWrittenByTheHostOnly := by
  unfold Obligations.OperandRegistersAreWrittenByTheHostOnly
  intro s t h hr
  cases stepEffect h with
  | operand x a p c _ hx ha hp hc ht => exact ht ▸ ⟨hx, ha, hp, hc⟩
  | reset hturn => exact absurd hturn hr
  | command i _ ht =>
    rw [ht, commandEffect_frame]
    exact ⟨absurd rfl, absurd rfl, absurd rfl, absurd rfl⟩
  | byteStep _ heffect =>
    rw [heffect.frame]
    exact ⟨absurd rfl, absurd rfl, absurd rfl, absurd rfl⟩
  | illegal _ _ ht | dropped _ _ _ ht | arrival _ _ ht | quiet _ _ ht =>
    rw [ht]
    exact ⟨absurd rfl, absurd rfl, absurd rfl, absurd rfl⟩

/-! ## `busy` and `result` (10_state.md rule R27; 70_reset_and_hazards.md section 3) -/

/-- A command leaves an idle block idle, or is a READ_FRAME that passes both checks and writes nothing but `busy`. -/
theorem commandEffect_busy_cases (i : Instr) (s : State) :
    (commandEffect i s).busy = false ∨
      (i = .readFrame ∧ s.cfg = .configured ∧ s.srcPresent = true ∧ commandEffect i s = { s with busy := true }) := by
  by_cases hi : i = .readFrame
  · subst hi
    rcases startReadFrame_cases s with ⟨-, e⟩ | ⟨-, -, e⟩ | ⟨hcfg, hsrc, e⟩
    · exact .inl (congrArg State.busy e)
    · exact .inl (congrArg State.busy e)
    · exact .inr ⟨rfl, hcfg, hsrc, e⟩
  · exact .inl (commandEffect_busy s hi)

/-- Settles O55: `busy` rises in `commandEffect_busy_cases` and falls at a byte step or a reset. -/
theorem busyFollowsReadFrame : Obligations.BusyFollowsReadFrame := by
  unfold Obligations.BusyFollowsReadFrame
  intro s t h hne
  cases stepEffect h with
  | command i haccept ht =>
    subst ht
    rcases commandEffect_busy_cases i s.endTurn with e | ⟨rfl, hcfg, hsrc, e⟩
    · exact absurd (e.trans haccept.1.symm) hne
    · exact .inl ⟨congrArg State.busy e, haccept, hcfg, hsrc⟩
  | illegal w haccept ht => exact absurd ((congrArg State.busy ht).trans haccept.1.symm) hne
  | reset hturn ht => exact .inr ⟨congrArg State.busy ht, .inr hturn⟩
  | byteStep hturn _ => exact .inr ⟨by simpa [hturn.1] using hne, .inl hturn⟩
  | dropped _ _ _ ht | operand _ _ _ _ _ _ _ _ _ ht | arrival _ _ ht | quiet _ _ ht =>
    exact absurd (congrArg State.busy ht :) hne

/-- A byte step goes on and keeps `result`, or ends the command. -/
theorem ByteEffect.result {P : Config.Params} {s t : State} (h : ByteEffect P s t) :
    t.result = s.result ∨ t.busy = false := by
  cases h with
  | empty | reject | deliver => exact .inr rfl
  | discard htake | capture htake => exact .inl (take_result htake :)

/-- Settles O56: what writes `result` ends a command. -/
theorem resultIsWrittenOnlyWhenACommandEnds : Obligations.ResultIsWrittenOnlyWhenACommandEnds := by
  unfold Obligations.ResultIsWrittenOnlyWhenACommandEnds
  intro s t h hne hr
  cases stepEffect h with
  | command i haccept ht =>
    subst ht
    rcases commandEffect_busy_cases i s.endTurn with hidle | ⟨-, -, -, e⟩
    · exact ⟨hidle, .inl ⟨_, haccept⟩⟩
    · exact absurd (congrArg State.result e) hne
  | illegal w haccept ht => exact ⟨congrArg State.busy ht, .inl ⟨w, haccept⟩⟩
  | reset hturn => exact absurd hturn hr
  | byteStep hturn heffect => exact ⟨heffect.result.resolve_left hne, .inr hturn⟩
  | dropped _ _ _ ht | operand _ _ _ _ _ _ _ _ _ ht | arrival _ _ ht | quiet _ _ ht =>
    exact absurd (congrArg State.result ht :) hne

/-! ## The frame registers and the byte source (10_state.md section 5; 20_memory.md section 5) -/

/-- A candidate of PKT_LEN − 1 bytes and its checksum are a valid packet (30_encoding.md rule R85). -/
theorem validPacket_of_candidate (P : Config.Params) {buf : List Byte} (hlen : buf.length = 46)
    (hmarkers : markersOk buf) : validPacket P (buf ++ [crc8 P buf]) := by
  obtain ⟨hhdr, hver⟩ := hmarkers
  refine ⟨by simp [hlen, pktLen_eq], ?_, ?_, ?_⟩
  · rw [List.getElem?_append_left (by omega)]
    exact hhdr (by omega)
  · rw [List.getElem?_append_left (by omega)]
    exact hver (by omega)
  · simp [pktLen_eq, hlen]

/-- Settles O57: the packet is the candidate, whose markers the invariant gives, and its checksum. -/
theorem frameRegistersHoldOnlyValidPackets : Obligations.FrameRegistersHoldOnlyValidPackets := by
  unfold Obligations.FrameRegistersHoldOnlyValidPackets
  intro s t hs h hne hr
  obtain ⟨⟨-, hmarkers⟩, -, -⟩ := hs
  rcases (stepEffect h).frameRegisters with
    ⟨e, -⟩ | ⟨hreset, -⟩ | ⟨hturn, hlen, hvalid, hresult, hbusy, hstream, hframe⟩
  · exact absurd e hne
  · exact absurd hreset hr
  · exact ⟨hturn, hresult, hvalid, hbusy, _, hstream, validPacket_of_candidate _ hlen hmarkers, hframe⟩

/-- A byte step takes the head of the byte source when the replay queue is empty, and nothing of it otherwise. -/
theorem ByteEffect.src {P : Config.Params} {s t : State} (h : ByteEffect P s t) :
    t.src = if s.replay = [] then s.src.tail else s.src := by
  cases h with
  | empty hnone => simp [finishEmpty, take_eq_none.mp hnone]
  | discard htake | capture htake | reject htake | deliver htake =>
    rcases take_eq_some htake with ⟨rest, hr, rfl⟩ | ⟨hr, rest, hs, rfl⟩ <;> simp [*]

/-- What a turn does to the byte source, by whose turn it is. -/
theorem StepEffect.src {s t : State} (h : StepEffect s t) :
    t.srcPresent = s.srcPresent ∧
      ((∃ bs, s.nextAction = .source bs ∧ t.src = s.src ++ bs) ∨
        (byteStepNext s ∧ t.src = if s.replay = [] then s.src.tail else s.src) ∨
        (¬byteStepNext s ∧ (∀ bs, s.nextAction ≠ .source bs) ∧ t.src = s.src)) := by
  cases h with
  | command i haccept ht =>
    obtain ⟨hblock, hsource⟩ := host_turn haccept.2
    rw [ht, commandEffect_frame]
    exact ⟨rfl, .inr (.inr ⟨hblock, hsource, rfl⟩)⟩
  | illegal _ haccept ht =>
    obtain ⟨hblock, hsource⟩ := host_turn haccept.2
    rw [ht]
    exact ⟨rfl, .inr (.inr ⟨hblock, hsource, rfl⟩)⟩
  | dropped _ _ hturn ht =>
    obtain ⟨hblock, hsource⟩ := host_turn hturn
    rw [ht]
    exact ⟨rfl, .inr (.inr ⟨hblock, hsource, rfl⟩)⟩
  | operand _ _ _ _ hturn _ _ _ _ ht =>
    obtain ⟨acc, hturn⟩ := hturn
    obtain ⟨hblock, hsource⟩ := host_turn hturn
    rw [ht]
    exact ⟨rfl, .inr (.inr ⟨hblock, hsource, rfl⟩)⟩
  | reset hturn ht =>
    rw [resetsNext] at hturn
    rw [ht]
    exact ⟨rfl, .inr (.inr ⟨by simp [byteStepNext, hturn], by simp [hturn], rfl⟩)⟩
  | quiet hblock hsource ht =>
    rw [ht]
    exact ⟨rfl, .inr (.inr ⟨hblock, hsource, rfl⟩)⟩
  | arrival bs hturn ht =>
    rw [ht]
    exact ⟨rfl, .inl ⟨bs, hturn, rfl⟩⟩
  | byteStep hturn heffect => exact ⟨(congrArg State.srcPresent heffect.frame :), .inr (.inl ⟨hturn, heffect.src⟩)⟩

/-- Settles O58: arrivals and byte steps alone touch the byte source, and no turn touches `src_present`. -/
theorem byteSourceIsFifo : Obligations.ByteSourceIsFifo := by
  unfold Obligations.ByteSourceIsFifo
  intro s t h
  obtain ⟨hpresent, ⟨bs, hturn, e⟩ | ⟨hturn, e⟩ | ⟨hblock, hsource, e⟩⟩ := (stepEffect h).src
  · refine ⟨hpresent, fun bs' hturn' => ?_, fun _ _ hb => ?_, fun hsource => absurd hturn (hsource bs)⟩
    · cases hturn.symm.trans hturn'
      exact e
    · exact nomatch hb.2.symm.trans hturn
  · refine ⟨hpresent, fun _ hturn' => ?_, fun b rest _ hr hs => ?_, fun _ hidle => ?_⟩
    · exact nomatch hturn.2.symm.trans hturn'
    · simp [e, hr, hs]
    · rw [e]
      split
      case isTrue hr =>
        have hempty : s.src = [] := by simpa [hturn, hr] using hidle
        rw [hempty, List.tail_nil]
      case isFalse => rfl
  · exact ⟨hpresent, fun bs hturn => absurd hturn (hsource bs), fun _ _ hturn => absurd hturn hblock, fun _ _ => e⟩

end Sys2Proof.Machine
end

section
/-! PROOFS. The reference table (40_checksum.md section 2), and the host programs of rule R91 that run without a byte
step: `checksum` (section 3) and `configure s, a, p` (30_encoding.md section 4). -/

namespace Sys2Proof.Machine

/-! ## The reference table (rules R112, R113) -/

/-- The top bit of a byte is set or not. -/
theorem topBit_cases (c : Byte) : c &&& 0x80#8 = 0x00#8 ∨ c &&& 0x80#8 = 0x80#8 := by
  revert c; decide

theorem xor_and_distrib_right {w : Nat} (x y z : BitVec w) : (x ^^^ y) &&& z = (x &&& z) ^^^ (y &&& z) := by
  ext i hi
  simp [Bool.and_xor_distrib_right]

/-- What a round adds to the shifted byte: the polynomial if the top bit is set. -/
def reduction (c : Byte) : Byte := if c &&& 0x80#8 ≠ 0 then 0x4D#8 else 0x00#8

theorem refRound_eq (c : Byte) : refRound c = (c <<< 1) ^^^ reduction c := by
  unfold refRound reduction
  split <;> simp

theorem reduction_xor (a b : Byte) : reduction (a ^^^ b) = reduction a ^^^ reduction b := by
  unfold reduction
  rw [xor_and_distrib_right]
  rcases topBit_cases a with ha | ha <;> rcases topBit_cases b with hb | hb <;> simp [ha, hb]

/-- A round is linear: the shift is, and so is the choice of the polynomial by the top bit. -/
theorem refRound_xor (a b : Byte) : refRound (a ^^^ b) = refRound a ^^^ refRound b := by
  rw [refRound_eq, refRound_eq, refRound_eq, BitVec.shiftLeft_xor_distrib, reduction_xor]
  ac_rfl

/-- Only 0 is sent to 0, so a round, being linear, is injective. -/
theorem refRound_injective : Function.Injective refRound := by
  have hzero : ∀ c : Byte, refRound c = 0 → c = 0 := by decide
  intro a b h
  exact BitVec.xor_eq_zero_iff.mp (hzero _ (by rw [refRound_xor, h]; exact BitVec.xor_self))

theorem refTable_injective : Function.Injective refTable := by
  intro a b h
  simpa only [refTable, refRound_injective.eq_iff] using h

/-- Settles O28: the table is eight rounds, each linear and injective; the check value is computed. -/
theorem referenceTableIsLinearBijection : Obligations.ReferenceTableIsLinearBijection := by
  unfold Obligations.ReferenceTableIsLinearBijection
  refine ⟨rfl, fun a b => ?_, fun _ _ h => refTable_injective h, by decide +kernel⟩
  simp only [refTable, refRound_xor]

/-- One step of the checksum over the reference table is injective in the accumulator and in the byte. -/
theorem crcStep_refParams_eq_iff {c c' b b' : Byte} :
    crcStep refParams c b = crcStep refParams c' b' ↔ c ^^^ b = c' ^^^ b' := by
  rw [crcStep_eq, crcStep_eq]
  exact refTable_injective.eq_iff

/-- So the bytes after a change cannot undo it. -/
theorem foldl_crcStep_refParams_injective (ys : List Byte) :
    Function.Injective fun c => ys.foldl (crcStep refParams) c := by
  induction ys with
  | nil => exact fun _ _ h => h
  | cons b ys ih =>
    intro c c' h
    exact (BitVec.xor_left_inj _).mp (crcStep_refParams_eq_iff.mp (ih h))

/-- Settles O29: the changed byte gives another accumulator, and the bytes after it keep the two apart. -/
theorem referenceCrcDetectsSingleByteChange : Obligations.ReferenceCrcDetectsSingleByteChange := by
  unfold Obligations.ReferenceCrcDetectsSingleByteChange
  intro xs ys b c hbc h
  simp only [crc8, List.foldl_append, List.foldl_cons] at h
  have hstep := foldl_crcStep_refParams_injective ys h
  exact hbc ((BitVec.xor_right_inj _).mp (crcStep_refParams_eq_iff.mp hstep))

/-! ## The host programs (rules R91, R117) -/

/-- The turn of an accepted command at the head of the schedule. -/
theorem step_commandEffect {s : State} {i : Instr} {rest : List Action} (hidle : s.busy = false)
    (h : s.schedule = .regWrite 0x00 (encode i) :: rest) :
    step s = .next (commandEffect i { s with schedule := rest }) := by
  rw [step_command (nextAction_of_cons h) (decode_encode i), endTurn_of_cons h]
  exact exec_idle i hidle

/-- The state with the coming turns replaced. -/
def State.withSchedule (as : List Action) (s : State) : State := { s with schedule := as }

/-- The turns of a list of CRC_FEEDs leave the accumulator at the running checksum. -/
theorem runSteps_crcFeeds (bs : List Byte) {s : State} (hidle : s.busy = false) (hdone : s.result = .done) :
    runSteps bs.length (s.withSchedule (bs.map fun b => .regWrite 0x00 (encode (.crcFeed b)))) =
      .next { s with schedule := [], crcAcc := bs.foldl (crcStep Config.params) s.crcAcc } := by
  induction bs generalizing s with
  | nil => rfl
  | cons b bs ih =>
    have hstep : step (s.withSchedule ((b :: bs).map fun b => .regWrite 0x00 (encode (.crcFeed b)))) =
        .next (crcFeed Config.params b (s.withSchedule (bs.map fun b => .regWrite 0x00 (encode (.crcFeed b))))) :=
      step_commandEffect (i := .crcFeed b) hidle rfl
    refine (runSteps_of_step hstep).trans ?_
    refine (ih (s := crcFeed Config.params b s) rfl rfl).trans ?_
    simp [crcFeed, State.finish, hidle, hdone]

/-- Settles O27: CRC_CLEAR, and then the feeds from the seed. -/
theorem hostFeedsComputeCrc : Obligations.HostFeedsComputeCrc := by
  unfold Obligations.HostFeedsComputeCrc
  intro s bs hidle hschedule
  have hstep : step (s.withHostProgram (Pseudo.checksum bs).expand) =
      .next ((crcClear s).withSchedule (bs.map fun b => .regWrite 0x00 (encode (.crcFeed b)))) := by
    have hturns : (Pseudo.checksum bs).expand.map Stmt.action =
        .regWrite 0x00 (encode .crcClear) :: bs.map fun b => .regWrite 0x00 (encode (.crcFeed b)) :=
      congrArg (List.cons _) List.map_map
    exact step_commandEffect (i := .crcClear) hidle hturns
  rw [Nat.add_comm, runSteps_of_step hstep, runSteps_crcFeeds bs (s := crcClear s) rfl rfl]
  simp [crcClear, State.finish, crc8, hidle, hschedule]

/-- The turn of an operand write at the head of the schedule. -/
theorem step_argSpeed (v : Word) (as : List Action) (s : State) :
    step (s.withSchedule (.regWrite 0x08 v :: as)) = .next (({ s with argSpeed := v } : State).withSchedule as) :=
  (step_cons rfl).trans (agentStep_argSpeed v _)

theorem step_argAngle (v : Word) (as : List Action) (s : State) :
    step (s.withSchedule (.regWrite 0x0C v :: as)) = .next (({ s with argAngle := v } : State).withSchedule as) :=
  (step_cons rfl).trans (agentStep_argAngle v _)

theorem step_argPwm (v : Word) (as : List Action) (s : State) :
    step (s.withSchedule (.regWrite 0x10 v :: as)) = .next (({ s with argPwm := v } : State).withSchedule as) :=
  (step_cons rfl).trans (agentStep_argPwm v _)

/-- Settles O25: three operand writes, and the CONFIGURE that reads them. -/
theorem pseudoConfigureSetsAllThree : Obligations.PseudoConfigureSetsAllThree := by
  unfold Obligations.PseudoConfigureSetsAllThree
  intro s x a p hidle hcfg hschedule
  have hconfigure := configure_idle_configured (P := Config.params) (a := true) (p := true)
    (s := { s with argSpeed := x, argAngle := a, argPwm := p, schedule := [] }) hidle hcfg
  calc runSteps 4 (s.withHostProgram (Pseudo.configureFull x a p).expand)
    _ = runSteps 3 (({ s with argSpeed := x } : State).withSchedule _) := runSteps_of_step (step_argSpeed x _ s)
    _ = runSteps 2 (({ s with argSpeed := x, argAngle := a } : State).withSchedule _) :=
      runSteps_of_step (step_argAngle a _ _)
    _ = runSteps 1 (({ s with argSpeed := x, argAngle := a, argPwm := p } : State).withSchedule
        [.regWrite 0x00 (encode (.configure true true))]) := runSteps_of_step (step_argPwm p _ _)
    _ = .next (configure Config.params true true
        { s with argSpeed := x, argAngle := a, argPwm := p, schedule := [] }) :=
      runSteps_of_step (step_commandEffect (i := .configure true true) hidle rfl)
    _ = _ := by
      rw [hconfigure, hschedule]
      rfl

end Sys2Proof.Machine
end

section
/-! PROOFS. The bytes of the stream (41_frame_decoder.md section 3) and the packet of a frame (section 5,
property 3). -/

namespace Sys2Proof.Machine

/-! ## Minimal discard (rule R139) -/

/-- Settles O34: one clause for each effect of a byte step; `take_stream` accounts for the bytes. -/
theorem byteStepDiscardsMinimally : Obligations.ByteStepDiscardsMinimally := by
  unfold Obligations.ByteStepDiscardsMinimally
  intro s t hbusy h
  rw [blockStep_running hbusy, readFrameStep_eq_next_iff] at h
  cases h with
  | empty hnone =>
    refine .inl ⟨.inr ?_, rfl, rfl⟩
    by_cases hbuf : s.buf = [] <;> simp [finishEmpty, hbuf]
  | discard htake hbuf hb =>
    refine .inr (.inl ⟨_, hb, hbuf, (take_buf htake).trans hbuf, (take_busy htake).trans hbusy, ?_, take_stream htake⟩)
    exact (congrArg State.frame (take_frame htake) :)
  | @capture b s' htake hhdr hver hlen =>
    refine .inl ⟨.inl ((take_busy htake).trans hbusy), (congrArg State.frame (take_frame htake) :), ?_⟩
    simp [take_buf htake, take_stream htake]
  | @reject b s' c htake hcause =>
    have hlen : s.buf.length = 1 ∨ s.buf.length = 46 := hcause.imp (fun ⟨_, h, _⟩ => h) (fun ⟨_, h, _⟩ => h)
    rcases hbuf : s.buf with - | ⟨x, xs⟩
    · simp [hbuf] at hlen
    refine .inr (.inr (.inl ⟨x, rfl, fun hs => ?_, ?_, rfl, rfl, (congrArg State.frame (take_frame htake) :), ?_⟩))
    · obtain ⟨⟨-, hhdr, -⟩, -, -⟩ := hs
      simpa [hbuf] using hhdr
    · rw [← hbuf]
      exact hcause.imp (fun ⟨hc, h, _⟩ => ⟨hc, h⟩) (fun ⟨hc, h, _⟩ => ⟨hc, h⟩)
    · simp [take_buf htake, hbuf, take_stream htake]
  | @deliver b s' htake hlen hcrc =>
    subst hcrc
    refine .inr (.inr (.inr ⟨_, hlen, rfl, fun hs => ?_, rfl, rfl, rfl, rfl, ?_⟩))
    · obtain ⟨⟨-, hmarkers⟩, -, -⟩ := hs
      exact validPacket_of_candidate _ hlen hmarkers
    · simp [take_stream htake]

/-! ## The packet of a frame (rules R85, R86) -/

/-- A field on the wire reads back. -/
theorem le16_extractLsb' (v : Half) : le16 (v.extractLsb' 0 8) (v.extractLsb' 8 8) = v := by
  apply BitVec.eq_of_toNat_eq
  have hlt := v.isLt
  simp only [le16_toNat, BitVec.extractLsb'_toNat, Nat.shiftRight_eq_div_pow]
  omega

/-- The packet of a frame is valid: its body holds the markers and has PKT_LEN − 1 bytes. -/
theorem packetOf_valid (P : Config.Params) (f : Frame) : validPacket P (packetOf P f) :=
  validPacket_of_candidate P rfl ⟨fun _ => rfl, fun _ => rfl⟩

/-- The three bytes of sample `i` stand at offset 6 + 3·i. -/
theorem byteAt_packetOf_sample (P : Config.Params) (f : Frame) {i : Nat} (h : i < Config.N) :
    fieldAt (packetOf P f) (6 + 3 * i) = f.dist[i] ∧ byteAt (packetOf P f) (8 + 3 * i) = f.conf[i] := by
  rw [show Config.N = 12 from rfl] at h
  interval_cases i <;> exact ⟨le16_extractLsb' _, rfl⟩

/-- Settles O35: the packet is valid by its body, and each field reads back from its own offset. -/
theorem packetOfFrameRoundTrips : Obligations.PacketOfFrameRoundTrips := by
  unfold Obligations.PacketOfFrameRoundTrips
  refine fun P f => ⟨packetOf_valid P f, ?_⟩
  obtain ⟨speed, startAngle, endAngle, timestamp, dist, conf⟩ := f
  rw [decodeFrame, Frame.mk.injEq]
  refine ⟨le16_extractLsb' _, le16_extractLsb' _, le16_extractLsb' _, le16_extractLsb' _, ?_, ?_⟩
  · ext i h : 1
    rw [Vector.getElem_ofFn]
    exact (byteAt_packetOf_sample P _ h).1
  · ext i h : 1
    rw [Vector.getElem_ofFn]
    exact (byteAt_packetOf_sample P _ h).2

end Sys2Proof.Machine
end

section
/-! PROOFS. Runs of READ_FRAME (41_frame_decoder.md sections 3 to 5): a run of byte steps as a relation, its form in the
machine with and without scheduled turns, and the runs that hunt, capture, reject and deliver. -/

namespace Sys2Proof.Machine

/-! ## Runs of byte steps -/

/-- `k` byte steps of a running READ_FRAME. `ByteSteps.runSteps_quiet` and `ByteSteps.runSteps_scheduled` tie it to the
machine. -/
inductive ByteSteps : Nat → State → State → Prop
  | refl (s : State) : ByteSteps 0 s s
  | head {k : Nat} {s u t : State} (hbusy : s.busy = true) (hfirst : ByteEffect Config.params s u)
    (hrest : ByteSteps k u t) : ByteSteps (k + 1) s t

theorem ByteSteps.trans {j k : Nat} {s u t : State} (h : ByteSteps j s u) (h' : ByteSteps k u t) :
    ByteSteps (j + k) s t := by
  induction h with
  | refl => rwa [Nat.zero_add]
  | head hbusy hfirst _ ih =>
    rw [Nat.succ_add]
    exact .head hbusy hfirst (ih h')

/-- A run ends with one more byte step. -/
theorem ByteSteps.concat {k : Nat} {s u t : State} (h : ByteSteps k s u) (hbusy : u.busy = true)
    (hlast : ByteEffect Config.params u t) : ByteSteps (k + 1) s t :=
  h.trans (.head hbusy hlast (.refl t))

theorem blockStep_of_effect {s t : State} (hbusy : s.busy = true) (h : ByteEffect Config.params s t) :
    blockStep s = .next t :=
  (blockStep_running hbusy).trans (readFrameStep_eq_next_iff.mpr h)

/-- With no turn pending the machine takes the byte steps. -/
theorem ByteSteps.runSteps_quiet {k : Nat} {s t : State} (h : ByteSteps k s t) (hs : s.schedule = [])
    (hr : s.recurring = []) : runSteps k s = .next t := by
  induction h with
  | refl => rfl
  | head hbusy hfirst _ ih =>
    rw [runSteps_of_step ((step_quiet hs hr).trans (blockStep_of_effect hbusy hfirst))]
    rw [hfirst.frame] at ih ⊢
    exact ih hs hr

/-- A byte step does not look at the coming turns. -/
theorem ByteEffect.withSchedule {P : Config.Params} {s t : State} (h : ByteEffect P s t) (as : List Action) :
    ByteEffect P (s.withSchedule as) (t.withSchedule as) := by
  have htaken {b : Byte} {s' : State} (htake : s.take = some (b, s')) :
      (s.withSchedule as).take = some (b, s'.withSchedule as) := by
    rcases take_eq_some htake with ⟨rest, hr, rfl⟩ | ⟨hr, rest, hs, rfl⟩
    · exact take_replay hr
    · exact take_src hr hs
  cases h with
  | empty hnone => exact .empty (take_eq_none.mpr (take_eq_none.mp hnone :))
  | discard htake hbuf hb => exact .discard (htaken htake) hbuf hb
  | capture htake hhdr hver hlen => exact .capture (htaken htake) hhdr hver hlen
  | reject htake hcause => exact .reject (htaken htake) hcause
  | deliver htake hlen hcrc => exact .deliver (htaken htake) hlen hcrc

/-- The turn of the block at the head of the schedule. -/
theorem step_block (as : List Action) (s : State) :
    step (s.withSchedule (.block :: as)) = blockStep (s.withSchedule as) := by
  rw [step_cons (a := .block) rfl, endTurn_of_cons rfl]
  rfl

/-- With one turn of the block scheduled for each, the machine takes the byte steps. -/
theorem ByteSteps.runSteps_withSchedule {k : Nat} {s t : State} (h : ByteSteps k s t) (as : List Action) :
    runSteps k (s.withSchedule (List.replicate k .block ++ as)) = .next (t.withSchedule as) := by
  induction h with
  | refl => rfl
  | @head k s u t hbusy hfirst _ ih =>
    have hstep : step (s.withSchedule (List.replicate (k + 1) .block ++ as)) =
        .next (u.withSchedule (List.replicate k .block ++ as)) :=
      (step_block _ s).trans (blockStep_of_effect hbusy (hfirst.withSchedule _))
    rw [runSteps_of_step hstep, ih]

theorem ByteSteps.runSteps_scheduled {k : Nat} {s t : State} {as : List Action} (h : ByteSteps k s t)
    (hs : s.schedule = List.replicate k .block ++ as) : runSteps k s = .next { t with schedule := as } := by
  have hrun := h.runSteps_withSchedule as
  rw [← hs] at hrun
  exact hrun

/-! ## Hunting (rule R133) -/

/-- The state after `k` bytes of the stream are taken. -/
def State.dropStream (k : Nat) (s : State) : State :=
  { s with replay := s.replay.drop k, src := s.src.drop (k - s.replay.length) }

theorem take_eq_dropStream {s : State} {b : Byte} {rest : List Byte} (h : s.replay ++ s.src = b :: rest) :
    s.take = some (b, s.dropStream 1) := by
  rcases hr : s.replay with - | ⟨x, xs⟩
  · have hs : s.src = b :: rest := by simpa [hr] using h
    rw [take_src hr hs]
    simp [State.dropStream, hr, hs]
  · obtain ⟨rfl, -⟩ : x = b ∧ _ := by simpa [hr] using h
    rw [take_replay hr]
    simp [State.dropStream, hr]

@[simp] theorem dropStream_zero (s : State) : s.dropStream 0 = s := by
  simp [State.dropStream]

theorem dropStream_dropStream (j k : Nat) (s : State) : (s.dropStream j).dropStream k = s.dropStream (j + k) := by
  simp [State.dropStream]
  omega

theorem dropStream_stream (k : Nat) (s : State) :
    (s.dropStream k).replay ++ (s.dropStream k).src = (s.replay ++ s.src).drop k := by
  simp [State.dropStream, List.drop_append]

/-- Bytes of the byte source are taken when the replay queue is empty. -/
theorem dropStream_src {s : State} {bs rest : List Byte} (hr : s.replay = []) (hs : s.src = bs ++ rest) :
    s.dropStream bs.length = { s with src := rest } := by
  simp [State.dropStream, hr, hs]

/-- The replay queue is taken first. -/
theorem dropStream_replay {s : State} {bs : List Byte} (hr : s.replay = bs) :
    s.dropStream bs.length = { s with replay := [] } := by
  simp [State.dropStream, hr]

/-- Bytes that are no header are discarded, one a step. -/
theorem ByteSteps.discard {s : State} {noise rest : List Byte} (hbusy : s.busy = true) (hbuf : s.buf = [])
    (hnoise : ∀ b ∈ noise, b ≠ Config.hdr) (hs : s.replay ++ s.src = noise ++ rest) :
    ByteSteps noise.length s (s.dropStream noise.length) := by
  induction noise generalizing s with
  | nil => simpa using ByteSteps.refl s
  | cons b noise ih =>
    obtain ⟨hb, hnoise⟩ := List.forall_mem_cons.mp hnoise
    have hrest := ih (s := s.dropStream 1) hbusy hbuf hnoise (by rw [dropStream_stream, hs]; rfl)
    rw [dropStream_dropStream, Nat.add_comm] at hrest
    exact .head hbusy (.discard (take_eq_dropStream hs) hbuf hb) hrest

/-- The same of noise at the head of the byte source. -/
theorem ByteSteps.discard_src {s : State} {noise rest : List Byte} (hbusy : s.busy = true) (hbuf : s.buf = [])
    (hr : s.replay = []) (hnoise : ∀ b ∈ noise, b ≠ Config.hdr) (hs : s.src = noise ++ rest) :
    ByteSteps noise.length s { s with src := rest } := by
  rw [← dropStream_src hr hs]
  exact .discard hbusy hbuf hnoise (by rw [hr, hs]; rfl)

/-- Settles O30: the two cases of the byte step while hunting, and the run `ByteSteps.discard_src`. -/
theorem huntingDiscardsUntilHeader : Obligations.HuntingDiscardsUntilHeader := by
  unfold Obligations.HuntingDiscardsUntilHeader
  refine ⟨fun P s b hbuf => ⟨?_, fun hb => by simp [decStep, hbuf, hb]⟩, ?_⟩
  · rintro rfl
    rw [decStep_header hbuf, State.capture, hbuf]
    rfl
  · intro s noise rest hbusy hschedule hrecurring hbuf hr hnoise hs
    exact (ByteSteps.discard_src hbusy hbuf hr hnoise hs).runSteps_quiet hschedule hrecurring

/-! ## Capturing (rules R134, R137) -/

/-- The byte that follows a candidate in a packet is the marker that the byte step asks for. -/
theorem markersOk_next {buf bs : List Byte} {b : Byte} (h : markersOk (buf ++ b :: bs)) :
    (buf = [] → b = Config.hdr) ∧ (buf.length = 1 → b = Config.verlen) := by
  obtain ⟨hhdr, hver⟩ := h
  constructor
  · rintro rfl
    simpa using hhdr
  · intro h1
    obtain ⟨x, rfl⟩ := List.length_eq_one_iff.mp h1
    simpa using hver

/-- The next bytes of a packet join the candidate, one a step. -/
theorem ByteSteps.capture {s : State} {bs rest : List Byte} (hbusy : s.busy = true) (hr : s.replay = [])
    (hs : s.src = bs ++ rest) (hmarkers : markersOk (s.buf ++ bs)) (hlen : (s.buf ++ bs).length ≤ 46) :
    ByteSteps bs.length s { s with buf := s.buf ++ bs, src := rest } := by
  induction bs generalizing s with
  | nil =>
    obtain rfl : s.src = rest := hs
    simpa using ByteSteps.refl s
  | cons b bs ih =>
    obtain ⟨hhdr, hver⟩ := markersOk_next hmarkers
    have hroom : s.buf.length ≤ Config.pktLen - 2 := by
      rw [List.length_append, List.length_cons] at hlen
      rw [pktLen_eq]
      omega
    have hfirst := ByteEffect.capture (P := Config.params) (take_src hr hs) hhdr hver hroom
    have hrest := ih (s := { s with src := bs ++ rest, buf := s.buf ++ [b] }) hbusy hr rfl
      (by simpa using hmarkers) (by simpa using hlen)
    simp only [List.append_assoc, List.singleton_append] at hrest
    exact .head hbusy hfirst hrest

/-- A valid packet is a body of PKT_LEN − 1 bytes that starts with the markers, and its checksum. -/
theorem validPacket_split {P : Config.Params} {p : List Byte} (h : validPacket P p) :
    ∃ body, body.length = 46 ∧ markersOk body ∧ p = body ++ [crc8 P body] := by
  obtain ⟨hlen, hhdr, hver, hcrc⟩ := h
  rw [pktLen_eq] at hlen hcrc
  have htake : (p.take 46).length = 46 := by simp [hlen]
  refine ⟨p.take 46, htake, ⟨fun _ => ?_, fun _ => ?_⟩, ?_⟩
  · simpa using hhdr
  · simpa using hver
  · calc p
      _ = p.take (46 + 1) := (List.take_of_length_le hlen.le).symm
      _ = p.take 46 ++ [crc8 P (p.take 46)] := by rw [List.take_add_one, hcrc, Option.toList_some]

/-- The first bytes of a packet hold its markers. -/
theorem markersOk_take {P : Config.Params} {p : List Byte} (h : validPacket P p) (n : Nat) : markersOk (p.take n) := by
  obtain ⟨hlen, hhdr, hver, -⟩ := h
  constructor
  · intro hn
    rw [List.getElem?_take_of_lt (by simp at hn; omega), hhdr]
  · intro hn
    rw [List.getElem?_take_of_lt (by simp at hn; omega), hver]

/-- A running READ_FRAME captures the first bytes of a packet and ends at the empty stream (rule R141). -/
theorem ByteSteps.firstBytes {s : State} {p : List Byte} {n : Nat} (hp : validPacket Config.params p) (hn : n < 47)
    (hbusy : s.busy = true) (hbuf : s.buf = []) (hr : s.replay = []) (hs : s.src = p.take n) :
    ByteSteps (n + 1) s
      { s with src := [], buf := p.take n, busy := false, result := if n = 0 then .noData else .insufficient } := by
  have hplen : p.length = 47 := hp.1
  have hlen : (p.take n).length = n := by simp [hplen]; omega
  have hempty : p.take n = [] ↔ n = 0 := by rw [← List.length_eq_zero_iff, hlen]
  have hcapture := ByteSteps.capture (rest := []) hbusy hr (hs.trans (List.append_nil _).symm)
    (by rw [hbuf]; exact markersOk_take hp n) (by rw [hbuf, List.nil_append, hlen]; omega)
  have hrun := hcapture.concat hbusy (.empty (take_eq_none.mpr ⟨hr, rfl⟩))
  simpa only [hlen, hbuf, finishEmpty, State.finish, List.nil_append, hempty] using hrun

/-- Settles O37: the run `ByteSteps.firstBytes` with no turn pending. -/
theorem prefixOfValidPacketGivesNoFrame : Obligations.PrefixOfValidPacketGivesNoFrame := by
  unfold Obligations.PrefixOfValidPacketGivesNoFrame
  intro s p n hp hn hbusy hschedule hrecurring hbuf hr hs
  exact (ByteSteps.firstBytes hp hn hbusy hbuf hr hs).runSteps_quiet hschedule hrecurring

/-! ## Delivery (rule R138) -/

/-- A running READ_FRAME completes the packet of which it holds the first bytes, and delivers its frame. -/
theorem ByteSteps.packet {s : State} {p rest : List Byte} (hp : validPacket Config.params p) (hbusy : s.busy = true)
    (hr : s.replay = []) (hlen : s.buf.length < 47) (hs : s.buf ++ s.src = p ++ rest) :
    ByteSteps (47 - s.buf.length) s
      { s with
        buf := [], src := rest, frame := decodeFrame p, frameValid := true, busy := false, result := .frame } := by
  obtain ⟨body, hbody, hmarkers, rfl⟩ := validPacket_split hp
  rw [List.append_assoc, List.singleton_append] at hs
  obtain ⟨bs, rfl⟩ : s.buf <+: body :=
    List.prefix_of_prefix_length_le ⟨s.src, hs⟩ (List.prefix_append _ _) (by omega)
  rw [List.append_assoc, List.append_cancel_left_eq] at hs
  have hcapture := ByteSteps.capture hbusy hr hs hmarkers hbody.le
  have hrun := hcapture.concat hbusy (.deliver (take_src hr rfl) hbody rfl)
  rw [List.length_append] at hbody
  rwa [show bs.length + 1 = 47 - s.buf.length by omega] at hrun

/-- The turn of a READ_FRAME that passes both checks. -/
theorem step_readFrame {s : State} {as : List Action} (hidle : s.busy = false) (hcfg : s.cfg = .configured)
    (hsrc : s.srcPresent = true) (h : s.schedule = .regWrite 0x00 (encode .readFrame) :: as) :
    step s = .next { s with schedule := as, busy := true } := by
  rw [step_commandEffect hidle h]
  exact congrArg _ (startReadFrame_starts (s := { s with schedule := as }) hcfg hsrc)

/-- A READ_FRAME of an idle block that may hold the first bytes of a packet, with the others at the head of the byte
source and no turn after its own, delivers the packet's frame. -/
theorem runSteps_readFrame_packet {s : State} {p rest : List Byte} (hp : validPacket Config.params p)
    (hidle : s.busy = false) (hcfg : s.cfg = .configured) (hsrc : s.srcPresent = true) (hr : s.replay = [])
    (hlen : s.buf.length < 47) (hs : s.buf ++ s.src = p ++ rest)
    (hschedule : s.schedule = [.regWrite 0x00 (encode .readFrame)]) (hrecurring : s.recurring = []) :
    runSteps (47 - s.buf.length + 1) s = .next
      { s with
        schedule := [], buf := [], src := rest, frame := decodeFrame p, frameValid := true, result := .frame } := by
  rw [runSteps_of_step (step_readFrame hidle hcfg hsrc hschedule)]
  refine (ByteSteps.packet (s := { s with schedule := [], busy := true }) hp rfl hr hlen hs).runSteps_quiet rfl
    hrecurring |>.trans ?_
  rw [hidle]

/-- Settles O36: the packet of a frame is valid and carries it. -/
theorem validPacketIsDelivered : Obligations.ValidPacketIsDelivered := by
  unfold Obligations.ValidPacketIsDelivered
  intro s f rest hidle hcfg hsrc hbuf hr hs hschedule hrecurring
  obtain ⟨hp, hframe⟩ := packetOfFrameRoundTrips Config.params f
  have hrun := runSteps_readFrame_packet hp hidle hcfg hsrc hr (by simp [hbuf]) (by rw [hbuf, hs]; rfl) hschedule
    hrecurring
  simpa [hbuf, hframe] using hrun

/-- The turn in which bytes arrive. -/
theorem step_source {s : State} {bs : List Byte} {as : List Action} (h : s.schedule = .source bs :: as) :
    step s = .next { s with schedule := as, src := s.src ++ bs } := by
  rw [step_cons h, endTurn_of_cons h]
  rfl

/-- Settles O38: the run `ByteSteps.firstBytes`, the arrival, and the second READ_FRAME. -/
theorem splitPacketIsCompleted : Obligations.SplitPacketIsCompleted := by
  unfold Obligations.SplitPacketIsCompleted
  intro s p n hp hn hbusy hcfg hsrc hbuf hr hs hschedule hrecurring
  have hplen : p.length = 47 := hp.1
  have hlen : (p.take n).length = n := by simp [hplen]; omega
  have hfirst := (ByteSteps.firstBytes hp hn hbusy hbuf hr hs).runSteps_scheduled hschedule
  have hsecond := runSteps_readFrame_packet (rest := [])
    (s := { s with
      src := p.drop n, buf := p.take n, busy := false, result := if n = 0 then .noData else .insufficient
      schedule := [.regWrite 0x00 (encode .readFrame)] })
    hp rfl hcfg hsrc hr (by simp [hlen, hn]) (by simp) rfl hrecurring
  rw [hlen] at hsecond
  rw [show 50 = n + 1 + (47 - n + 1 + 1) by omega]
  calc runSteps (n + 1 + (47 - n + 1 + 1)) s
    _ = runSteps (47 - n + 1 + 1) _ := runSteps_add hfirst
    _ = runSteps (47 - n + 1) _ := runSteps_of_step (step_source rfl)
    _ = .next _ := hsecond
    _ = _ := by simp [hbuf]

/-! ## Rejects (rules R135, R137) -/

/-- A running READ_FRAME rejects a packet with a wrong checksum byte; the bytes after its header are to be read
again. -/
theorem ByteSteps.badChecksum {s : State} {body rest : List Byte} {c : Byte} (hbusy : s.busy = true) (hbuf : s.buf = [])
    (hr : s.replay = []) (hbody : body.length = 44) (hc : c ≠ crc8 Config.params (0x54#8 :: 0x2C#8 :: body))
    (hs : s.src = 0x54#8 :: 0x2C#8 :: body ++ c :: rest) :
    ByteSteps 47 s
      { s with src := rest, replay := 0x2C#8 :: body ++ [c], busy := false, result := .badChecksum } := by
  have hcapture := ByteSteps.capture hbusy hr hs (by rw [hbuf]; exact ⟨fun _ => rfl, fun _ => rfl⟩)
    (by simp [hbuf, hbody])
  have hrun := hcapture.concat hbusy
    (.reject (take_src hr rfl) (.inr ⟨rfl, by simp [hbuf, hbody, pktLen_eq], by simpa [hbuf] using hc.symm⟩))
  simpa [State.reject, State.finish, hbuf, hr, hbody] using hrun

/-- Settles O39: a header and a wrong version byte, and the run `ByteSteps.badChecksum`. -/
theorem rejectDiscardsOnlyTheHeader : Obligations.RejectDiscardsOnlyTheHeader := by
  unfold Obligations.RejectDiscardsOnlyTheHeader
  constructor
  · intro s b rest hbusy hschedule hrecurring hbuf hr hb hs
    have hcapture := ByteSteps.capture (bs := [0x54#8]) hbusy hr hs (by rw [hbuf]; exact ⟨fun _ => rfl, nofun⟩)
      (by simp [hbuf])
    have hrun : ByteSteps 2 s _ :=
      hcapture.concat hbusy (.reject (take_src hr rfl) (.inl ⟨rfl, by simp [hbuf], hb⟩))
    rw [hrun.runSteps_quiet hschedule hrecurring]
    simp [State.reject, State.finish, hbuf, hr]
  · intro s body rest c hbusy hschedule hrecurring hbuf hr hbody hc hs
    exact (ByteSteps.badChecksum hbusy hbuf hr hbody hc hs).runSteps_quiet hschedule hrecurring

/-- A running READ_FRAME takes rejected bytes that hold no header, and then delivers the packet that follows. -/
theorem ByteSteps.rescan {s : State} {noise p : List Byte} (hp : validPacket Config.params p) (hbusy : s.busy = true)
    (hbuf : s.buf = []) (hr : s.replay = noise) (hnoise : ∀ b ∈ noise, b ≠ Config.hdr) (hs : s.src = p) :
    ByteSteps (noise.length + 47) s
      { s with
        replay := [], src := [], frame := decodeFrame p, frameValid := true, busy := false, result := .frame } := by
  have hdiscard := ByteSteps.discard hbusy hbuf hnoise (congrArg (· ++ s.src) hr)
  rw [dropStream_replay hr] at hdiscard
  have hpacket := ByteSteps.packet (s := { s with replay := [] }) (rest := []) hp hbusy rfl (by simp [hbuf])
    (by simp [hbuf, hs])
  simpa [hbuf] using hdiscard.trans hpacket

/-- Settles O40: `ByteSteps.badChecksum`, and a second READ_FRAME with the run `ByteSteps.rescan`. -/
theorem freshPacketAfterCorruptOne : Obligations.FreshPacketAfterCorruptOne := by
  unfold Obligations.FreshPacketAfterCorruptOne
  intro s body p c hbusy hcfg hsrc hbuf hr hbody hnoise hc0 hc hp hs hschedule hrecurring
  have hfirst := (ByteSteps.badChecksum hbusy hbuf hr hbody hc hs).runSteps_scheduled hschedule
  have hrejected : ∀ b ∈ 0x2C#8 :: body ++ [c], b ≠ Config.hdr := by
    simp only [List.cons_append, List.forall_mem_cons, List.forall_mem_append]
    exact ⟨by decide, hnoise, hc0, nofun⟩
  have hlen : (0x2C#8 :: body ++ [c]).length + 47 = 93 := by simp [hbody]
  have hrescan := ByteSteps.rescan
    (s := { s with
      schedule := [], src := p, replay := 0x2C#8 :: body ++ [c], busy := true, result := .badChecksum })
    hp rfl hbuf rfl hrejected rfl
  rw [hlen] at hrescan
  refine ⟨hfirst, ?_⟩
  calc runSteps (47 + (93 + 1)) s
    _ = runSteps (93 + 1) _ := runSteps_add hfirst
    _ = runSteps 93 _ := runSteps_of_step (step_readFrame rfl hcfg hsrc rfl)
    _ = .next _ := hrescan.runSteps_quiet rfl hrecurring
    _ = _ := by simp [hr]

end Sys2Proof.Machine
end

section
/-! PROOFS. How a READ_FRAME ends (41_frame_decoder.md section 4): on a finite stream, under a polling host
(20_memory.md section 7), and never on endless noise (60_exceptions.md section 5). -/

namespace Sys2Proof.Machine

/-! ## A finite stream (rule R142) -/

/-- A byte step ends the command with one of its codes, or takes one byte of the stream and goes on. -/
theorem ByteEffect.progress {P : Config.Params} {s t : State} (h : ByteEffect P s t) :
    (t.busy = false ∧ t.result ∈ [ResultCode.frame, ResultCode.noData, ResultCode.insufficient,
      ResultCode.badVersion, ResultCode.badChecksum]) ∨
      (t.busy = s.busy ∧ s.replay.length + s.src.length = t.replay.length + t.src.length + 1) := by
  have hstream {b : Byte} {s' : State} (htake : s.take = some (b, s')) :
      s.replay.length + s.src.length = s'.replay.length + s'.src.length + 1 := by
    simpa using congrArg List.length (take_stream htake)
  cases h with
  | empty =>
    refine .inl ⟨rfl, ?_⟩
    by_cases hbuf : s.buf = [] <;> simp [finishEmpty, hbuf]
  | discard htake | capture htake => exact .inr ⟨(take_busy htake :), (hstream htake :)⟩
  | reject htake hcause =>
    refine .inl ⟨rfl, ?_⟩
    rcases hcause with ⟨rfl, -⟩ | ⟨rfl, -⟩ <;> simp
  | deliver => exact .inl ⟨rfl, by simp⟩

/-- A running READ_FRAME ends after at most one byte step for each byte of the stream and one more. -/
theorem exists_byteSteps_end {s : State} (hs : s.Inv) (hbusy : s.busy = true) :
    ∃ k t, k ≤ s.replay.length + s.src.length + 1 ∧ ByteSteps k s t ∧ t.busy = false ∧
      t.result ∈ [ResultCode.frame, ResultCode.noData, ResultCode.insufficient, ResultCode.badVersion,
        ResultCode.badChecksum] := by
  induction hn : s.replay.length + s.src.length using Nat.strong_induction_on generalizing s with
  | _ n ih =>
    obtain ⟨u, hu⟩ := readFrameStep_total (P := Config.params) hs.buf_lt
    have hfirst := readFrameStep_eq_next_iff.mp hu
    rcases hfirst.progress with hend | ⟨hrun, hlen⟩
    · exact ⟨1, u, by omega, .head hbusy hfirst (.refl u), hend⟩
    · obtain ⟨k, t, hk, hrest, hend⟩ :=
        ih (u.replay.length + u.src.length) (by omega) (hfirst.inv hs hbusy) (hrun.trans hbusy) rfl
      exact ⟨k + 1, t, by omega, .head hbusy hfirst hrest, hend⟩

/-- Settles O41: the run `exists_byteSteps_end` with no turn pending. -/
theorem readFrameEndsOnFiniteStream : Obligations.ReadFrameEndsOnFiniteStream := by
  unfold Obligations.ReadFrameEndsOnFiniteStream
  intro s hs hbusy hschedule hrecurring
  obtain ⟨k, t, hk, hrun, hend⟩ := exists_byteSteps_end hs hbusy
  exact ⟨k, t, hk, hrun.runSteps_quiet hschedule hrecurring, hend⟩

/-! ## A polling host (20_memory.md section 7) -/

@[simp] theorem busyBit_status (s : State) : busyBit (regRead Reg.status.offset s) = s.busy := by
  obtain ⟨-, hbusy, -⟩ := statusWord_fields s
  rw [busyBit, regRead_offset]
  exact hbusy

theorem step_poll {s : State} (h : s.nextAction = .poll) : step s = .next (hostPoll s.endTurn) := step_turn h

theorem hostPoll_idle {s : State} (h : s.busy = false) : hostPoll s = s.recordRead 0x04 := by
  rw [hostPoll, busyBit_status, h]
  rfl

theorem hostPoll_busy {s : State} (h : s.busy = true) :
    hostPoll s = (s.recordRead 0x04).withSchedule (.block :: .poll :: s.schedule) := by
  rw [hostPoll, busyBit_status, h]
  rfl

/-- The state between a poll that finds the block busy and the block's turn, its turn taken. -/
def State.polled (s : State) : State := (s.endTurn.recordRead 0x04).withSchedule (.poll :: s.endTurn.schedule)

/-- After the poll of a running READ_FRAME and the block's turn the poll comes again, with the command ended or the
stream one byte shorter. -/
theorem exists_poll_round {s : State} (hs : s.Inv) (hturn : s.nextAction = .poll) (hbusy : s.busy = true) :
    ∃ t : State, runSteps 2 s = .next t ∧ t.Inv ∧ t.nextAction = .poll ∧ t.endTurn.schedule = s.endTurn.schedule ∧
      (t.busy = false ∨ s.replay.length + s.src.length = t.replay.length + t.src.length + 1) := by
  have hinv : s.polled.Inv := hs
  obtain ⟨t, ht⟩ := readFrameStep_total (P := Config.params) hinv.buf_lt
  have heffect := readFrameStep_eq_next_iff.mp ht
  have hschedule : t.schedule = .poll :: s.endTurn.schedule := (congrArg State.schedule heffect.frame :)
  refine ⟨t, ?_, heffect.inv hinv hbusy, nextAction_of_cons hschedule, by rw [endTurn_of_cons hschedule], ?_⟩
  · rw [runSteps_of_step (step_poll hturn), hostPoll_busy (s := s.endTurn) hbusy]
    exact runSteps_of_step ((step_block _ _).trans (blockStep_of_effect (s := s.polled) hbusy heffect))
  · exact heffect.progress.imp (fun ⟨h, _⟩ => h) (fun ⟨_, h⟩ => h)

/-- The next `k` steps end the poll whose turn it is: the turns after it come, the block is idle, and the last value
read is a STATUS word with BUSY = 0. -/
def PollEnds (k : Nat) (s : State) : Prop :=
  ∃ t, runSteps k s = .next t ∧ t.schedule = s.endTurn.schedule ∧ t.busy = false ∧
    ∃ v : Word, t.reads.getLast? = some ⟨0x04, v⟩ ∧ v.getLsbD 4 = false

theorem pollEnds_idle {s : State} (hturn : s.nextAction = .poll) (hbusy : s.busy = false) : PollEnds 1 s := by
  refine ⟨s.endTurn.recordRead 0x04, ?_, rfl, hbusy, regRead 0x04 s.endTurn, by simp, ?_⟩
  · rw [runSteps_of_step (step_poll hturn), hostPoll_idle (s := s.endTurn) hbusy, runSteps_zero]
  · exact (busyBit_status s.endTurn).trans hbusy

theorem PollEnds.after {j k : Nat} {s u : State} (h : PollEnds k u) (hrun : runSteps j s = .next u)
    (hschedule : u.endTurn.schedule = s.endTurn.schedule) : PollEnds (j + k) s := by
  obtain ⟨t, ht, htschedule, hread⟩ := h
  exact ⟨t, (runSteps_add hrun).trans ht, htschedule.trans hschedule, hread⟩

/-- A poll ends after two steps for each byte of the stream and three more. -/
theorem exists_pollEnds {s : State} (hs : s.Inv) (hturn : s.nextAction = .poll) :
    ∃ k, k ≤ 2 * (s.replay.length + s.src.length) + 3 ∧ PollEnds k s := by
  induction hn : s.replay.length + s.src.length using Nat.strong_induction_on generalizing s with
  | _ n ih =>
    cases hbusy : s.busy with
    | false => exact ⟨1, by omega, pollEnds_idle hturn hbusy⟩
    | true =>
      obtain ⟨u, hrun, hu, huturn, hschedule, hidle | hlen⟩ := exists_poll_round hs hturn hbusy
      · exact ⟨2 + 1, by omega, (pollEnds_idle huturn hidle).after hrun hschedule⟩
      · obtain ⟨k, hk, hend⟩ := ih (u.replay.length + u.src.length) (by omega) hu huturn rfl
        exact ⟨2 + k, by omega, hend.after hrun hschedule⟩

/-- Settles O43: `exists_pollEnds`. -/
theorem pollReturnsWithTheBlockIdle : Obligations.PollReturnsWithTheBlockIdle := by
  unfold Obligations.PollReturnsWithTheBlockIdle
  intro s hs hturn
  obtain ⟨k, hk, t, hend⟩ := exists_pollEnds hs hturn
  exact ⟨k, t, hk, hend⟩

/-! ## Endless noise (rule R142) -/

/-- The recurring turns of endless noise: bytes arrive, the block takes them, the host writes to CMD. -/
def noiseTurns (noise : List Byte) (words : List Word) : List Action :=
  .source noise :: List.replicate noise.length .block ++ words.map (.regWrite 0x00)

/-- The turn of a CMD write while the block is busy. -/
theorem step_dropped {s : State} {w : Word} {as : List Action} (hbusy : s.busy = true)
    (h : s.schedule = .regWrite 0x00 w :: as) : step s = .next { s with schedule := as, cmdOvr := true } := by
  rw [step_cmdWrite (nextAction_of_cons h), endTurn_of_cons h]
  exact cmdWrite_busy w hbusy

/-- With the schedule used up the noise arrives again. -/
theorem step_noise_arrives {s : State} {noise : List Byte} {words : List Word} (h : s.schedule = [])
    (hr : s.recurring = noiseTurns noise words) :
    step s = .next { s with
      schedule := List.replicate noise.length .block ++ words.map (.regWrite 0x00), src := s.src ++ noise } := by
  obtain ⟨hturn, hend⟩ := turn_of_recurring h hr
  rw [step_turn hturn, hend]
  rfl

/-- A READ_FRAME on endless noise: it hunts, with a turn scheduled for each byte to come and only CMD writes after
them. -/
structure OnNoise (noise : List Byte) (words : List Word) (s : State) : Prop where
  busy : s.busy = true
  buf : s.buf = []
  replay : s.replay = []
  src : ∀ b ∈ s.src, b ≠ Config.hdr
  schedule : ∃ ws : List Word, s.schedule = List.replicate s.src.length .block ++ ws.map (.regWrite 0x00)
  recurring : s.recurring = noiseTurns noise words

theorem runSteps_one (s : State) : runSteps 1 s = step s := by
  rw [runSteps_succ]
  cases step s <;> rfl

/-- On endless noise every step goes on, keeps the READ_FRAME running and writes no result. -/
theorem OnNoise.step {noise : List Byte} {words : List Word} {s : State} (h : OnNoise noise words s)
    (hnoise : ∀ b ∈ noise, b ≠ Config.hdr) :
    ∃ t, Machine.step s = .next t ∧ OnNoise noise words t ∧ t.result = s.result := by
  obtain ⟨hbusy, hbuf, hr, hsrc, ⟨ws, hschedule⟩, hrecurring⟩ := h
  rcases hs : s.src with - | ⟨b, rest⟩ <;> rw [hs] at hschedule hsrc
  · rcases ws with - | ⟨w, ws⟩
    · refine ⟨_, step_noise_arrives hschedule hrecurring, ⟨hbusy, hbuf, hr, ?_, ⟨words, ?_⟩, hrecurring⟩, rfl⟩
      · simpa [hs] using hnoise
      · simp [hs]
    · exact ⟨_, step_dropped hbusy hschedule, ⟨hbusy, hbuf, hr, by simp [hs], ⟨ws, by simp [hs]⟩, hrecurring⟩, rfl⟩
  · obtain ⟨hb, hrest⟩ := List.forall_mem_cons.mp hsrc
    have heffect : ByteEffect Config.params s { s with src := rest } := .discard (take_src hr hs) hbuf hb
    have hrun := (ByteSteps.head hbusy heffect (.refl _)).runSteps_scheduled
      (as := List.replicate rest.length .block ++ ws.map (.regWrite 0x00)) hschedule
    exact ⟨_, (runSteps_one s).symm.trans hrun, ⟨hbusy, hbuf, hr, hrest, ⟨ws, rfl⟩, hrecurring⟩, rfl⟩

/-- So a READ_FRAME on endless noise runs for ever. -/
theorem OnNoise.runSteps {noise : List Byte} {words : List Word} {s : State} (h : OnNoise noise words s)
    (hnoise : ∀ b ∈ noise, b ≠ Config.hdr) (k : Nat) :
    ∃ t, Machine.runSteps k s = .next t ∧ t.busy = true ∧ t.result = s.result := by
  induction k generalizing s with
  | zero => exact ⟨s, rfl, h.busy, rfl⟩
  | succ k ih =>
    obtain ⟨u, hu, hnext, hresult⟩ := h.step hnoise
    obtain ⟨t, ht, hbusy, hkeep⟩ := ih hnext
    exact ⟨t, (runSteps_of_step hu).trans ht, hbusy, hkeep.trans hresult⟩

/-- CMD writes while busy set `cmd_ovr` and do nothing else. -/
theorem runSteps_dropped {s : State} {words : List Word} (hbusy : s.busy = true)
    (h : s.schedule = words.map (.regWrite 0x00)) :
    runSteps words.length s = .next { s with
      schedule := [], cmdOvr := if words = [] then s.cmdOvr else true } := by
  induction words generalizing s with
  | nil =>
    simp only [List.map_nil] at h
    simp [← h]
  | cons w words ih =>
    have hrest := ih (s := { s with schedule := words.map (.regWrite 0x00), cmdOvr := true }) hbusy rfl
    refine (runSteps_of_step (step_dropped hbusy h)).trans (hrest.trans ?_)
    simp

/-- One round of endless noise: every byte that arrives is discarded, every CMD write dropped. -/
theorem OnNoise.runSteps_round {noise : List Byte} {words : List Word} {s : State} (h : OnNoise noise words s)
    (hnoise : ∀ b ∈ noise, b ≠ Config.hdr) (hs : s.src = []) (hschedule : s.schedule = []) :
    Machine.runSteps (noise.length + words.length + 1) s =
      .next { s with cmdOvr := if words = [] then s.cmdOvr else true } := by
  have harrive := step_noise_arrives hschedule h.recurring
  have hdiscard := ByteSteps.discard_src (rest := [])
    (s := { s with
      schedule := List.replicate noise.length .block ++ words.map (.regWrite 0x00), src := s.src ++ noise })
    h.busy h.buf h.replay hnoise (by simp [hs])
  calc Machine.runSteps (noise.length + words.length + 1) s
    _ = Machine.runSteps (noise.length + words.length) _ := runSteps_of_step harrive
    _ = Machine.runSteps words.length _ := runSteps_add (hdiscard.runSteps_scheduled rfl)
    _ = .next _ := runSteps_dropped h.busy rfl
    _ = _ := by rw [hs, hschedule]

/-- Any number of rounds of endless noise change nothing but `cmd_ovr`. -/
theorem OnNoise.runSteps_rounds {noise : List Byte} {words : List Word} {s : State} (h : OnNoise noise words s)
    (hnoise : ∀ b ∈ noise, b ≠ Config.hdr) (hs : s.src = []) (hschedule : s.schedule = []) (n : Nat) :
    Machine.runSteps (n * (noise.length + words.length + 1)) s =
      .next { s with cmdOvr := if n = 0 ∨ words = [] then s.cmdOvr else true } := by
  induction n generalizing s with
  | zero => simp
  | succ n ih =>
    have hnext : OnNoise noise words { s with cmdOvr := if words = [] then s.cmdOvr else true } :=
      ⟨h.busy, h.buf, h.replay, h.src, h.schedule, h.recurring⟩
    rw [Nat.succ_mul, Nat.add_comm, runSteps_add (h.runSteps_round hnoise hs hschedule), ih hnext hs hschedule]
    by_cases hw : words = [] <;> simp [hw]

/-- Settles O42: `OnNoise.runSteps` for every number of steps, `OnNoise.runSteps_rounds` for whole rounds, and
`hardReset` for the end. -/
theorem readFrameOnEndlessNoiseNeverEnds : Obligations.ReadFrameOnEndlessNoiseNeverEnds := by
  unfold Obligations.ReadFrameOnEndlessNoiseNeverEnds
  refine ⟨fun s noise words hbusy hbuf hr hs _ hnoise hschedule hrecurring => ?_, fun s hturn => ?_⟩
  · have hstart : OnNoise noise words s :=
      ⟨hbusy, hbuf, hr, by simp [hs], ⟨[], by simp [hs, hschedule]⟩, hrecurring⟩
    have hlen : s.recurring.length = noise.length + words.length + 1 := by simp [hrecurring]
    rw [hlen]
    exact ⟨hstart.runSteps hnoise, hstart.runSteps_rounds hnoise hs hschedule⟩
  · exact ⟨s.endTurn.hardReset, step_turn hturn, rfl, rfl⟩

end Sys2Proof.Machine
end
